-- ==== Sys2Proof/Word.lean ====
section
/-! DEFINITION. The word types of the QL8: host bytes are bits (R163), channels are the eight numbers
0 to 7 (R53). Everything else the manual counts (slices, frames, weights, sums, attempts) is a `Nat`. -/

namespace Sys2Proof

/-- One byte of a host transaction (R163, R183). -/
abbrev Byte := BitVec 8

/-- A load channel number, 0 to 7 (R53). -/
abbrev Chan := Fin 8

end Sys2Proof
end

