-- ==== Sys2Proof/Syntax.lean ====
section
/-! DEFINITION. The steps of the QL8: one constructor of `Instr` per row of spec/opcode_table.json, with the
operands the rules give the step. A host command's operands are its parameter bytes (Table 12-3); an event's
operands are what the world outside the block decides at it (a voltage, an echo, the cell of a mismatch). -/

namespace Sys2Proof

/-- The points of a Table Unit job (R14 to R16). A job runs from its start to its end, and other steps may come
in between; `whole` is a job with no other step in between. -/
inductive JobPoint where
  /-- the arbiter grants the job and it starts (R15) -/
  | grant
  /-- the job ends and its results are handed on (R16) -/
  | finish
  /-- grant and end, nothing in between -/
  | whole
  deriving DecidableEq, Repr

/-- How an attempt begins (R101). -/
inductive StartKind where
  /-- the station's own gap count reaches 10 T with the line recessive -/
  | own
  /-- the station drives its start cell from another station's start edge -/
  | joining
  deriving DecidableEq, Repr

/-- Which of the two limits of R109 a broken notice passed. -/
inductive BreakKind where
  | dominant
  | recessive
  deriving DecidableEq, Repr

/-- How the line stands at a judgment: its level, and for how many quarter bit times it has had it without a break
(R100, R109, R110). -/
inductive LineRun where
  | dominant (quarters : Nat)
  | recessive (quarters : Nat)
  deriving DecidableEq, Repr

/-- A dominant period that lasts, at a LINE_FAULT step, in quarter bit times (R110). -/
inductive Held where
  /-- the period has lasted without a break since the last step of the line, or since the receiver came on if that is
  later: the time since then -/
  | on (elapsed : Nat)
  /-- the line has returned recessive since the last step of the line: the time since the falling edge of the period it
  is in now -/
  | anew (quarters : Nat)
  deriving DecidableEq, Repr

/-- The line as a sender finds it at a mismatch (R102, R105): the cell, numbered as in Table 12-1, and for how many
quarter bit times the line has been recessive since it was last low in the attempt, none where it has not been low at
all. -/
structure Mismatch where
  cell : Nat
  returned : Option Nat
  deriving DecidableEq, Repr

/-- A heard notice at its judgment: the cells decoded, from the first kind cell on, and the line (R92). -/
structure Heard where
  cells : List Bool
  run : LineRun
  deriving DecidableEq, Repr

/-- Which is taken first where a restart cause and a frame start come at one completion (R139). -/
inductive TakenFirst where
  | cause
  | frameStart
  deriving DecidableEq, Repr

/-- The steps of the block. -/
inductive Instr where
  -- host commands, each taken whole in the open transaction (R163, R164)
  | nop
  | readStatus
  | readEvents
  | writeEventMask (mask1 mask2 : Byte)
  | readSetting (ident : Byte)
  | writeSetting (ident hi lo : Byte)
  | join
  | leave
  | softReset
  | request (chan mode start len : Byte)
  | release (chan : Byte)
  | readChannel (chan : Byte)
  | readEntry (index : Byte)
  | readPeer (index : Byte)
  | readMap (first count : Byte)
  | shedNow
  | unknownCommand (code : Byte)
  -- the transaction and its read-to-clear bytes
  | transactionOpen
  | transactionClose
  | flagByteShifted
  | outcomeByteShifted
  -- the Table Unit
  | hostJob (point : JobPoint)
  | evaluate (point : JobPoint)
  | sweep (point : JobPoint)
  | peerLoss (station : Nat)
  | placement (point : JobPoint)
  | withdrawal (chan : Chan)
  | leaveDeferredChannelEffects
  | resyncRefill
  -- the Frame Timer, the Supply Monitor, Shed Control; `sns` is the voltage at SNS in millivolts, rounded down,
  -- as the comparator sees it (DESIGN CHOICE: log entry 6)
  | sliceBoundary (sns : Nat)
  | frameExpiry (sns : Nat)
  | holdTick (sns : Nat)
  | freeRunningSamplerTick (sns : Nat)
  | summaryTimerExpiry
  | listenEnd
  | shedHoldEnd
  | shedResend
  -- the phase line; times are in quarter bit times; a cell is numbered as in Table 12-1. `elapsed`: since the last step
  -- of the line, or since the line's change of level if that is later. `dominant`: the length of the echo cell's dominant
  -- period, rounded down (log entry 7)
  | attemptStart (kind : StartKind) (elapsed : Nat)
  | lostArbitration (cell : Nat)
  | driverFault (found : Mismatch)
  | stationConflict (cell : Nat)
  | heardNoticeJudged (heard : Heard)
  | noticeComplete (dominant : Nat) (first : TakenFirst)
  | noticeBroken (kind : BreakKind)
  | lineFault (held : Held)
  -- resets
  | powerOnReset
  | pinReset
  | startEdge (elapsed : Nat)
  | ownEchoCell
  | pinResetEnd
  | powerOnResetEnd
  deriving DecidableEq, Repr

end Sys2Proof
end

