-- ==== Sys2Proof/Decode.lean ====
section
/-! DEFINITION. Decoding. The opcode table gives no row any bits, so a table word spells no command; the host
commands have the byte forms of Tables 10-2 and 12-3, decoded and encoded here. -/

namespace Sys2Proof

/-- The command a word of the table spells: none, because no row of spec/opcode_table.json has bits. -/
def decodeTableWord (_nbits _w : Nat) : Option Instr := none

/-- The sixteen command codes, Table 10-2 (R164). -/
def commandCodes : List Nat :=
  [0x00, 0x11, 0x12, 0x13, 0x21, 0x22, 0x31, 0x32, 0x3F, 0x41, 0x42, 0x43, 0x51, 0x52, 0x53, 0x61]

/-- How many parameter bytes a command code carries; an unknown command has none (R164). -/
def parameterCount (code : Byte) : Nat :=
  match code.toNat with
  | 0x13 => 2
  | 0x21 => 1
  | 0x22 => 3
  | 0x41 => 4
  | 0x42 => 1
  | 0x43 => 1
  | 0x51 => 1
  | 0x52 => 1
  | 0x53 => 2
  | _ => 0

/-- The command a code and its parameter bytes spell, the right number of parameters given (R164). -/
def decodeParameters (code : Byte) (params : List Byte) : Option Instr :=
  match code.toNat, params with
  | 0x00, [] => some .nop
  | 0x11, [] => some .readStatus
  | 0x12, [] => some .readEvents
  | 0x13, [a, b] => some (.writeEventMask a b)
  | 0x21, [a] => some (.readSetting a)
  | 0x22, [a, b, c] => some (.writeSetting a b c)
  | 0x31, [] => some .join
  | 0x32, [] => some .leave
  | 0x3F, [] => some .softReset
  | 0x41, [a, b, c, d] => some (.request a b c d)
  | 0x42, [a] => some (.release a)
  | 0x43, [a] => some (.readChannel a)
  | 0x51, [a] => some (.readEntry a)
  | 0x52, [a] => some (.readPeer a)
  | 0x53, [a, b] => some (.readMap a b)
  | 0x61, [] => some .shedNow
  | n, [] => if n ∈ commandCodes then none else some (.unknownCommand code)
  | _, _ => none

/-- The command taken whole from the bytes of a transaction, byte 0 first: none while a parameter byte is still to
come. Bytes after the last parameter byte are ignored (R163, R164, R167). -/
def decodeTransaction : List Byte → Option Instr
  | [] => none
  | code :: rest =>
    if rest.length < parameterCount code then none
    else decodeParameters code (rest.take (parameterCount code))

/-- The bytes of a host command, byte 0 first (R164, Table 12-3); no other step has bytes. -/
def encodeTransaction : Instr → Option (List Byte)
  | .nop => some [0x00]
  | .readStatus => some [0x11]
  | .readEvents => some [0x12]
  | .writeEventMask a b => some [0x13, a, b]
  | .readSetting a => some [0x21, a]
  | .writeSetting a b c => some [0x22, a, b, c]
  | .join => some [0x31]
  | .leave => some [0x32]
  | .softReset => some [0x3F]
  | .request a b c d => some [0x41, a, b, c, d]
  | .release a => some [0x42, a]
  | .readChannel a => some [0x43, a]
  | .readEntry a => some [0x51, a]
  | .readPeer a => some [0x52, a]
  | .readMap a b => some [0x53, a, b]
  | .shedNow => some [0x61]
  | .unknownCommand code => some [code]
  | _ => none

end Sys2Proof
end

