-- ==== Sys2Proof/Config.lean ====
section
/-! DEFINITION. The sizes the manual fixes for every QL8, and the one point where two of its rules speak against each
other, which stays free. -/

namespace Sys2Proof.Config

/-- Places of the receive queue (R91). -/
def receivePlaces : Nat := 4

/-- Attempts a notice may make that are not lost in arbitration (R84). -/
def maxAttempts : Nat := 4

/-- Placements of one request (R32). -/
def maxPlacements : Nat := 4

/-- Cap of the sweep-pending count (R49) and of a silence count (R19). -/
def silenceCap : Nat := 64

/-- First slice from which a realignment is no slip (R46). -/
def slipSlice : Nat := 56

/-- The recessive time that makes a falling edge a start edge: 9 T, in quarter bit times (R100). -/
def startEdgeQuarters : Nat := 36

/-- After a malformed header the station waits for 10 T of recessive line before its next start (R79), or takes a start
edge after 9 T as ever (R100). The two rules name the same case and differ, so the choice is free: no claim can rest on
either. DESIGN CHOICE, safe (log entry 10). -/
opaque malformedHeaderWaits : Bool

/-- The idle gap a sender waits for: 10 T, in quarter bit times (R100, R101). -/
def idleGapQuarters : Nat := 40

/-- A bit cell: T, in quarter bit times (R98). -/
def cellQuarters : Nat := 4

/-- The sample point of a cell: T/2 after its falling edge, in quarter bit times (R98). -/
def sampleQuarters : Nat := 2

/-- A dominant or recessive period longer than this breaks a notice: 2 T, in quarter bit times (R109). -/
def breakQuarters : Nat := 8

/-- The dominant period that is a line fault: 128 T, in quarter bit times (R110). -/
def faultQuarters : Nat := 512

end Sys2Proof.Config
end

