-- ==== Sys2Proof/Machine/State.lean ====
section
/-! DEFINITION. The state of the QL8, block by block as Figure 1 of the manual lists them, the reasons a step can
stop, and the state after reset. Plain data throughout. -/

namespace Sys2Proof.Machine

/-! ### Windows, entries and the occupancy map -/

/-- A window: `len` consecutive slices from `start` (terms of chapter 4 of the scope; R2). -/
structure Window where
  start : Nat
  len : Nat
  deriving DecidableEq, Repr

/-- Entry states (R2). -/
inductive EntryState where
  | claiming
  | held
  | releasing
  deriving DecidableEq, Repr

/-- A reservation-table entry, Table 1-1 (R2). -/
structure Entry where
  owner : Nat
  chan : Chan
  win : Window
  weight : Nat
  state : EntryState
  deriving DecidableEq, Repr

/-- One record of the occupancy map (R5). -/
structure Sums where
  committed : Nat
  tentative : Nat
  deriving DecidableEq, Repr

/-- The reservation table of 96 positions (R1) with the occupancy map of 64 records that the Table Unit keeps
beside it (R5, R6). -/
structure Book where
  table : Vector (Option Entry) 96
  map : Vector Sums 64
  deriving DecidableEq, Repr

/-! ### Peers -/

/-- A peer record, Table 7-1 (R113). -/
structure Peer where
  number : Nat
  silence : Nat
  budget : Option Nat
  mismatch : Bool
  awaiting : Bool
  deriving DecidableEq, Repr

/-! ### Notices -/

/-- One listed entry of a SUMMARY (R77, R182). -/
structure Listed where
  chan : Chan
  win : Window
  weight : Nat
  deriving DecidableEq, Repr

/-- A notice with its payload, Table 5-1 (R77). -/
inductive Notice where
  | sync (frame : Nat)
  | shed
  | release (chan : Chan)
  | claim (chan : Chan) (win : Window) (weight : Nat)
  | leave
  | summary (budget : Nat) (listed : List Listed)
  deriving DecidableEq, Repr

/-- A notice as the transmit queue holds it: the payload of every kind but SUMMARY is fixed at placing, and that
of a SUMMARY is captured at each attempt (R78). -/
inductive TxBody where
  | sync (frame : Nat)
  | shed
  | release (chan : Chan)
  | claim (chan : Chan) (win : Window) (weight : Nat)
  | leave
  | summary
  deriving DecidableEq, Repr

/-- An item of the transmit queue (R80). -/
structure TxItem where
  body : TxBody
  count : Nat
  inAttempt : Bool
  deriving DecidableEq, Repr

/-- An item of the receive queue (R91). -/
structure RxItem where
  own : Bool
  sender : Nat
  notice : Notice
  deriving DecidableEq, Repr

/-! ### Line Interface -/

/-- The judgment of a heard notice that still has its echo cell to pass (Table 5-5, R92). -/
inductive Verdict where
  /-- good, a place reserved; this station drives the echo -/
  | accepted (item : RxItem)
  /-- good, no place free: lost at completion -/
  | overrun (item : RxItem)
  | crcFailure
  | malformed
  deriving DecidableEq, Repr

/-- What the Line Interface is doing with the notice on the line. -/
inductive LinePhase where
  /-- no notice is being sent or decoded -/
  | idle
  /-- no notice is being decoded: the rest of one with a malformed header is passing (R79, R100) -/
  | skipping
  /-- a heard notice is being decoded (R99) -/
  | decoding
  /-- a heard notice has been judged; its echo cell is passing (R92, R107) -/
  | judged (v : Verdict)
  /-- an attempt of this station is in progress, before its echo cell (R101) -/
  | sending (n : Notice)
  /-- the echo cell of an own attempt; `reserved`: a receive place was free for it (R93) -/
  | ownEcho (n : Notice) (reserved : Bool)
  deriving DecidableEq, Repr

/-- The Line Interface: its phase, the gap count and the line-fault timer (R100, R110), both as they stood at the
last line event, in quarter bit times. -/
structure LineInterface where
  phase : LinePhase
  gapCount : Nat
  faultTimer : Nat
  deriving DecidableEq, Repr

/-! ### Frame Timer -/

/-- The Frame Timer, Table 3-3 (R38). -/
structure FrameTimer where
  running : Bool
  slice : Nat
  frame : Nat
  hold : Bool
  sweepPending : Nat
  deriving DecidableEq, Repr

/-! ### Load channels -/

/-- Channel states (R53). -/
inductive ChanState where
  | idle
  | placing
  | claiming
  | held
  | releasing
  deriving DecidableEq, Repr

/-- Request modes (R24). -/
inductive ReqMode where
  | atMode
  | fromMode
  deriving DecidableEq, Repr

/-- Outcome kinds (R53). -/
inductive OutcomeKind where
  | none
  | granted
  | refusedNoRoom
  | refusedNoEntry
  | refusedContested
  | withdrawn
  | released
  | yielded
  | dropped
  deriving DecidableEq, Repr

/-- A channel record, Table 4-1 (R53). -/
structure Channel where
  state : ChanState
  mode : ReqMode
  reqStart : Nat
  reqLen : Nat
  window : Option Window
  attempts : Nat
  releasePending : Bool
  reRequest : Bool
  live : Bool
  shedSuspended : Bool
  outcome : OutcomeKind
  outcomeWindow : Option Window
  fresh : Bool
  rewrite : Bool
  deriving DecidableEq, Repr

/-! ### Supply Monitor and Shed Control -/

/-- Supply states (R152). -/
inductive SupplyState where
  | normal
  | low
  deriving DecidableEq, Repr

/-- The Supply Monitor (R151, R152): the supply state, the sample history, and the free-running sampler with the
length in µs of its interval in progress. -/
structure SupplyMonitor where
  state : SupplyState
  history : Nat
  samplerRunning : Bool
  samplerInterval : Nat
  deriving DecidableEq, Repr

/-- Shed states (R153). -/
inductive ShedState where
  | idle
  | shedding
  deriving DecidableEq, Repr

/-- Shed Control, Table 9-1 (R153). -/
structure ShedControl where
  state : ShedState
  hold : Nat
  resend : Nat
  deriving DecidableEq, Repr

/-! ### Station Controller -/

/-- Station states (R133). -/
inductive StationState where
  | unjoined
  | listening
  | joined
  | desync
  | leaving
  | halted
  deriving DecidableEq, Repr

/-- Halt causes (R133). -/
inductive HaltCause where
  | none
  | lineFault
  | stationConflict
  deriving DecidableEq, Repr

/-- The settings, Table 8-3 (R135). -/
structure Settings where
  stationNumber : Nat
  lineRate : Nat
  sliceLength : Nat
  budget : Nat
  summaryInterval : Nat
  silenceLimit : Nat
  shedHold : Nat
  supplyThreshold : Nat
  weight : Vector Nat 8
  sheddable : Vector Bool 8
  invert : Vector Bool 8
  deriving DecidableEq, Repr

/-! ### Host Port -/

/-- The commands of Table 10-2 with their parameter bytes (R164), SOFT_RESET apart: it acts at its byte and is
never the current or the held command (R170). -/
inductive HostCmd where
  | nop
  | readStatus
  | readEvents
  | writeEventMask (mask1 mask2 : Byte)
  | readSetting (ident : Byte)
  | writeSetting (ident hi lo : Byte)
  | join
  | leave
  | request (chan mode start len : Byte)
  | release (chan : Byte)
  | readChannel (chan : Byte)
  | readEntry (index : Byte)
  | readPeer (index : Byte)
  | readMap (first count : Byte)
  | shedNow
  deriving DecidableEq, Repr

/-- Phases of a host transaction, Table 10-1 (R162). `got`: the command byte and the parameter bytes shifted in so
far. -/
inductive HostPhase where
  | closed
  | command
  | parameters (got : List Byte)
  | waiting
  | response
  | trailing
  deriving DecidableEq, Repr

/-- Result codes, R171. -/
inductive ResultCode where
  | ok
  | unknownCommand
  | badParameter
  | wrongState
  | channelBusy
  | notHeld
  | channelDisabled
  | badSetting
  | inProgress
  deriving DecidableEq, Repr

/-- A command taken whole. `pendingSet`: it is a RELEASE that set its channel's release-pending mark when it was
taken (R57, R173). -/
structure Taken where
  cmd : HostCmd
  pendingSet : Bool
  deriving DecidableEq, Repr

/-- What a response carries that acts when its byte is shifted out whole (R168). -/
inductive RespKind where
  | plain
  /-- a READ_STATUS, READ_EVENTS or READ_CHANNEL that has been carried out; its fields are formed when its ready marker
  is chosen (R166) -/
  | unformed
  /-- a READ_EVENTS: the flags reported, and how many of its flag bytes have been shifted out whole (R179) -/
  | events (reported : BitVec 16) (shifted : Nat)
  /-- a READ_CHANNEL, its outcome byte not yet shifted out whole, or already so (R72) -/
  | channel (chan : Chan) (shifted : Bool)
  deriving DecidableEq, Repr

/-- The response buffer: response fields and result byte (R162, R166). -/
structure Response where
  kind : RespKind
  fields : List Byte
  result : ResultCode
  deriving DecidableEq, Repr

/-- The Host Port, Table 10-1 (R162), with its pins CS# and SDO (R163). The previous-job-pending mark is set
exactly while a held command exists, so it is `held.isSome` (log entry 20). -/
structure HostPort where
  csLow : Bool
  sdoDriven : Bool
  phase : HostPhase
  current : Option Taken
  held : Option Taken
  response : Option Response
  deriving DecidableEq, Repr

/-- The shift register of the Host Port (R163, R165): the bits the host has still to clock in on SDI, an input; the
byte that is being shifted out of a response, chosen when its first bit was presented, none between two bytes; and how
many bytes of the response have been chosen, its ready marker the first. -/
structure SerialPort where
  sdi : List Bool
  out : Option Byte
  sent : Nat
  deriving DecidableEq, Repr

/-! ### Event Block -/

/-- The Event Block: a flag and a second-occurrence mark for each of the 16 events, and the mask (R177 to R180).
Event n is bit n. -/
structure EventBlock where
  flags : BitVec 16
  seconds : BitVec 16
  mask : BitVec 16
  deriving DecidableEq, Repr

/-! ### Table Unit jobs -/

/-- A running Table Unit job (R14), with what it took at its start. -/
inductive Job where
  /-- the notice taken from the head of the receive queue (R7) -/
  | evaluate (item : RxItem)
  /-- a sweep; `lost`: it has declared a peer lost (R20) -/
  | sweep (lost : Bool)
  /-- the host command the job carries out -/
  | host (t : Taken)
  /-- the channel being placed (R25) -/
  | placement (chan : Chan)
  deriving DecidableEq, Repr

/-- The three counts of READ_STATUS that come from the Table Unit (R175). -/
structure Counts where
  peers : Nat
  entries : Nat
  own : Nat
  deriving DecidableEq, Repr

/-- The Table Unit beside its tables: the running job, what waits for the unit to become free (withdrawals R17,
the channel effects of a leave R73, a resync refill R126), and the counts as they stood when it was last free. -/
structure TableUnit where
  job : Option Job
  withdrawals : List Chan
  leaveWaiting : Bool
  refillWaiting : Bool
  lastCounts : Counts
  deriving DecidableEq, Repr

/-- RST# low, and a power-on reset in progress (R148, R184). -/
structure ResetPins where
  pin : Bool
  power : Bool
  deriving DecidableEq, Repr

/-! ### The whole state -/

/-- The state of one QL8, and the commands waiting for it, first in, first out. -/
structure State where
  station : StationState
  haltCause : HaltCause
  listenCount : Nat
  settings : Settings
  line : LineInterface
  txQueue : List TxItem
  summaryTimer : Nat
  rxQueue : List RxItem
  timer : FrameTimer
  book : Book
  peers : List Peer
  unit : TableUnit
  channels : Vector Channel 8
  grants : List Chan
  driven : Vector Bool 8
  supply : SupplyMonitor
  shed : ShedControl
  host : HostPort
  serial : SerialPort
  events : EventBlock
  resets : ResetPins
  pending : List Instr
  deriving DecidableEq, Repr

/-- Reasons a step stops the machine. There is none: the manual gives every step of the block an effect, and a
step whose conditions do not hold does not occur (log entry 2). -/
inductive Fault : Type
  deriving DecidableEq, Repr

/-- Reasons a command has no meaning in the model. -/
inductive Refusal where
  /-- Raised by `exec`'s arm of a row that has no meaning yet, by name; safe. No arm raises it now. -/
  | notModelled (mnemonic : String)
  deriving DecidableEq, Repr

/-! ### The state after reset -/

/-- The settings after power-on and pin reset, Table 8-3 (R135). -/
def Settings.reset : Settings where
  stationNumber := 0
  lineRate := 1
  sliceLength := 3
  budget := 64
  summaryInterval := 8
  silenceLimit := 24
  shedHold := 16
  supplyThreshold := 20
  weight := Vector.replicate 8 0
  sheddable := Vector.replicate 8 true
  invert := Vector.replicate 8 false

/-- A channel record after every reset (R76). -/
def Channel.reset : Channel where
  state := .idle
  mode := .atMode
  reqStart := 0
  reqLen := 0
  window := none
  attempts := 0
  releasePending := false
  reRequest := false
  live := false
  shedSuspended := false
  outcome := .none
  outcomeWindow := none
  fresh := false
  rewrite := false

/-- The empty reservation table and map (R23). -/
def Book.empty : Book where
  table := Vector.replicate 96 none
  map := Vector.replicate 64 ⟨0, 0⟩

/-- The Table Unit with no job, nothing waiting and empty tables. -/
def TableUnit.free : TableUnit where
  job := none
  withdrawals := []
  leaveWaiting := false
  refillWaiting := false
  lastCounts := ⟨0, 0, 0⟩

/-- The Line Interface after every reset, at JOIN and at entry to UNJOINED and HALTED (R112). -/
def LineInterface.quiet : LineInterface where
  phase := .idle
  gapCount := 0
  faultTimer := 0

/-- The stopped values of the Frame Timer (R38). -/
def FrameTimer.stopped : FrameTimer where
  running := false
  slice := 0
  frame := 0
  hold := false
  sweepPending := 0

/-- Shed Control in IDLE (R153). -/
def ShedControl.idle : ShedControl where
  state := .idle
  hold := 0
  resend := 0

/-- The Host Port after reset, CS# high (R162). -/
def HostPort.reset : HostPort where
  csLow := false
  sdoDriven := false
  phase := .closed
  current := none
  held := none
  response := none

/-- The shift register with no transaction open. -/
def SerialPort.quiet : SerialPort where
  sdi := []
  out := none
  sent := 0

/-- The machine right after a power-on or pin reset has ended (R148): UNJOINED, every block at its reset values,
the free-running sampler just started at the reset slice length of 200 µs (R151), CS# high: DESIGN CHOICE, safe (log
entry 24). -/
def State.reset : State where
  station := .unjoined
  haltCause := .none
  listenCount := 0
  settings := Settings.reset
  line := LineInterface.quiet
  txQueue := []
  summaryTimer := 0
  rxQueue := []
  timer := FrameTimer.stopped
  book := Book.empty
  peers := []
  unit := TableUnit.free
  channels := Vector.replicate 8 Channel.reset
  grants := []
  driven := Vector.replicate 8 false
  supply := ⟨.normal, 0, true, 200⟩
  shed := ShedControl.idle
  host := HostPort.reset
  serial := SerialPort.quiet
  events := ⟨0, 0, 0⟩
  resets := ⟨false, false⟩
  pending := []

end Sys2Proof.Machine
end

