-- ==== Sys2Proof/Machine/Flags.lean ====
section
/-! DEFINITION. The Event Block: raising events, clearing flags at the end of a flag byte, the mask and ATTN#
(R177 to R181). -/

namespace Sys2Proof.Machine

/-- The sixteen events, Table 10-5 (R177). -/
inductive Event where
  | joinDone
  | leaveDone
  | channelOutcome
  | peerNew
  | peerGone
  | desync
  | resyncDone
  | overcommit
  | tableFull
  | shedStart
  | shedEnd
  | syncSlip
  | witnessFail
  | budgetMismatch
  | rxOverrun
  | halted
  deriving DecidableEq, Repr

/-- The number of an event, Table 10-5 (R177). -/
def eventNumber : Event → Nat
  | .joinDone => 0
  | .leaveDone => 1
  | .channelOutcome => 2
  | .peerNew => 3
  | .peerGone => 4
  | .desync => 5
  | .resyncDone => 6
  | .overcommit => 7
  | .tableFull => 8
  | .shedStart => 9
  | .shedEnd => 10
  | .syncSlip => 11
  | .witnessFail => 12
  | .budgetMismatch => 13
  | .rxOverrun => 14
  | .halted => 15

/-- The flag word with the bit of one event: event n is bit n, so events 0 to 7 are flag byte 1 (R183). -/
def eventBit (e : Event) : BitVec 16 := 1#16 <<< eventNumber e

/-- The flag is set. -/
def EventBlock.isSet (b : EventBlock) (e : Event) : Bool := b.flags.getLsbD (eventNumber e)

/-- The flags of a formed READ_EVENTS response whose byte has not yet been shifted out whole (R179). -/
def unshiftedFlags : Option Response → BitVec 16
  | some ⟨.events _ 0, _, _⟩ => 0xFFFF#16
  | some ⟨.events _ 1, _, _⟩ => 0xFF00#16
  | _ => 0#16

/-- Raising the events of a flag word: each flag is set whatever the mask says, and an event raised between a
report and the end of its byte sets its second-occurrence mark as well (R178, R179). -/
def State.raiseBits (bits : BitVec 16) (s : State) : State :=
  { s with events := { s.events with
      flags := s.events.flags ||| bits
      seconds := s.events.seconds ||| (bits &&& unshiftedFlags s.host.response) } }

/-- Raising one event. -/
def State.raise (e : Event) (s : State) : State := s.raiseBits (eventBit e)

/-- Raising an event where a condition holds. -/
def State.raiseIf (b : Bool) (e : Event) (s : State) : State := if b then s.raise e else s

/-- The end of the flag byte `byteMask` of a report `reported`: the flags reported set are cleared but for those
whose second-occurrence mark is set, and the byte's marks are cleared (R179). -/
def EventBlock.endOfByte (byteMask reported : BitVec 16) (b : EventBlock) : EventBlock :=
  { b with
    flags := b.flags &&& ~~~(reported &&& byteMask &&& ~~~b.seconds)
    seconds := b.seconds &&& ~~~byteMask }

/-- The flag byte a READ_EVENTS response shifts out next. -/
def flagByteMask : Nat → BitVec 16
  | 0 => 0x00FF#16
  | 1 => 0xFF00#16
  | _ => 0#16

/-- ATTN# is driven low while an enabled flag is set (R181). -/
def State.attnLow (s : State) : Bool := s.events.flags &&& s.events.mask != 0#16

end Sys2Proof.Machine
end

