-- ==== Sys2Proof/Machine/Operands.lean ====
section
/-! DEFINITION. The layouts of the last chapter: the cells of a notice and its CRC (R106, R182), the bytes and
codes of host commands and responses (R164, R171, R183), and the settings by identifier (R135, Table 12-4). -/

namespace Sys2Proof.Machine

/-! ### Bit fields -/

/-- The `w` cells of a field, most significant bit first (R182). -/
def natBits : Nat → Nat → List Bool
  | 0, _ => []
  | w + 1, n => n.testBit w :: natBits w n

/-- The value of a run of cells, most significant bit first (R182). -/
def bitsNat (cells : List Bool) : Nat := cells.foldl (fun n b => 2 * n + b.toNat) 0

/-- The field of `len` cells that begins `off` cells on. -/
def field (off len : Nat) (cells : List Bool) : Nat := bitsNat ((cells.drop off).take len)

/-- A channel field (R182). -/
def chanOf (n : Nat) : Chan := Fin.ofNat 8 n

/-! ### The CRC -/

/-- One covered cell into the CRC register (R106, step 2). -/
def crcStep (reg : BitVec 16) (cell : Bool) : BitVec 16 :=
  if reg.msb = cell then reg <<< 1 else (reg <<< 1) ^^^ 0x1021#16

/-- The CRC of the covered cells: register set to all ones, no final inversion (R106). -/
def crcOf (cells : List Bool) : BitVec 16 := cells.foldl crcStep 0xFFFF#16

/-- The sixteen CRC cells, top bit first (R106, step 3). -/
def crcCells (cells : List Bool) : List Bool := natBits 16 (crcOf cells).toNat

/-! ### The cells of a notice -/

/-- The kind code of a notice, Table 5-1 (R77). -/
def Notice.kind : Notice → Nat
  | .sync _ => 0
  | .shed => 1
  | .release _ => 2
  | .claim _ _ _ => 3
  | .leave => 4
  | .summary _ _ => 5

/-- The 21 cells of a listed entry: channel, start, length − 1, weight (R182). -/
def Listed.cells (l : Listed) : List Bool :=
  natBits 3 l.chan.val ++ natBits 6 l.win.start ++ natBits 6 (l.win.len - 1) ++ natBits 6 l.weight

/-- The payload cells of a notice, Table 12-1 (R182). -/
def Notice.payloadCells : Notice → List Bool
  | .sync f => natBits 8 f
  | .shed => []
  | .release c => natBits 3 c.val
  | .claim c w wt => Listed.cells ⟨c, w, wt⟩
  | .leave => []
  | .summary b ls => natBits 12 b ++ natBits 4 ls.length ++ ls.flatMap Listed.cells

/-- The cells a CRC covers: kind, sender number minus one, payload (R106, R182). -/
def Notice.coveredCells (sender : Nat) (n : Notice) : List Bool :=
  natBits 3 n.kind ++ natBits 5 (sender - 1) ++ n.payloadCells

/-- The cells of a notice from the first kind cell to the last CRC cell: cells 2 onward of Table 12-1 (R182). -/
def Notice.cells (sender : Nat) (n : Notice) : List Bool :=
  n.coveredCells sender ++ crcCells (n.coveredCells sender)

/-- The value a sender drives in cell `k`, numbered as in Table 12-1: cell 1 is the start cell, always 0 (R98).
None from the echo cell on. -/
def Notice.sentCell (sender : Nat) (n : Notice) (k : Nat) : Option Bool :=
  if k = 0 then none else if k = 1 then some false else (n.cells sender)[k - 2]?

/-! ### Decoding and judging a heard notice -/

/-- What a receiver makes of the cells it decoded, before it looks at its own number and its queue: the rows of
Table 5-5 (R92) down to the malformed fields. -/
inductive Decoded where
  /-- fewer cells than the notice has: broken before the echo cell -/
  | broken
  /-- kind 6 or 7, or a SUMMARY count above 8 (R79) -/
  | malformedHeader
  | crcFailure
  | malformedFields
  | good (sender : Nat) (n : Notice)
  deriving DecidableEq, Repr

/-- The window fields of a listed entry or a CLAIM payload (R182). -/
def readListed (cells : List Bool) : Listed :=
  ⟨chanOf (field 0 3 cells), ⟨field 3 6 cells, field 9 6 cells + 1⟩, field 15 6 cells⟩

/-- The `n` listed entries of a SUMMARY (R182). -/
def readList : Nat → List Bool → List Listed
  | 0, _ => []
  | n + 1, cells => readListed cells :: readList n (cells.drop 21)

/-- The form checks of one window and weight (R79). -/
def Listed.wellFormed (l : Listed) : Bool := l.win.start + l.win.len ≤ 64 && l.weight != 0

/-- Listed channels in strictly ascending order (R79). -/
def ascending : List Listed → Bool
  | a :: b :: t => decide (a.chan < b.chan) && ascending (b :: t)
  | _ => true

/-- The field checks of a complete notice (R79). -/
def Notice.wellFormed : Notice → Bool
  | .claim c w wt => Listed.wellFormed ⟨c, w, wt⟩
  | .summary _ ls => ls.all Listed.wellFormed && ascending ls
  | _ => true

/-- The notice a kind code and its payload cells carry (R182). -/
def readPayload (kind : Nat) (cells : List Bool) : Notice :=
  match kind with
  | 0 => .sync (field 0 8 cells)
  | 1 => .shed
  | 2 => .release (chanOf (field 0 3 cells))
  | 3 => .claim (readListed cells).chan (readListed cells).win (readListed cells).weight
  | 4 => .leave
  | _ => .summary (field 0 12 cells) (readList (field 12 4 cells) (cells.drop 16))

/-- Payload cells of a kind, a SUMMARY's from its count (R98, R182). -/
def payloadLength (kind count : Nat) : Nat :=
  match kind with
  | 0 => 8
  | 2 => 3
  | 3 => 21
  | 5 => 16 + 21 * count
  | _ => 0

/-- Decoding the cells of a heard notice, from the first kind cell on; cells beyond its last CRC cell are no part
of it (R79, R92, R98, R106, R182): DESIGN CHOICE, safe (log entry 18). -/
def decodeNotice (cells : List Bool) : Decoded :=
  if cells.length < 3 then .broken
  else if 6 ≤ field 0 3 cells then .malformedHeader
  else if cells.length < 8 then .broken
  else if field 0 3 cells = 5 ∧ cells.length < 24 then .broken
  else if field 0 3 cells = 5 ∧ 8 < field 20 4 cells then .malformedHeader
  else
    let covered := 8 + payloadLength (field 0 3 cells) (field 20 4 cells)
    if cells.length < covered + 16 then .broken
    else if crcCells (cells.take covered) ≠ (cells.drop covered).take 16 then .crcFailure
    else
      let n := readPayload (field 0 3 cells) ((cells.take covered).drop 8)
      if n.wellFormed then .good (field 3 5 cells + 1) n else .malformedFields

/-! ### Host bytes -/

/-- A value in one byte. -/
def byteOf (n : Nat) : Byte := BitVec.ofNat 8 n

/-- A value in two bytes, the more significant first (R183). -/
def twoBytes (n : Nat) : List Byte := [byteOf (n / 256), byteOf n]

/-- A mark, or a yes-or-no value, in one byte (Table 12-2). -/
def markByte (b : Bool) : Byte := if b then 1 else 0

/-- The number two bytes carry (R183). -/
def pairNat (hi lo : Byte) : Nat := 256 * hi.toNat + lo.toNat

/-- Result codes (R171). -/
def ResultCode.byte : ResultCode → Byte
  | .ok => 0x00
  | .unknownCommand => 0x01
  | .badParameter => 0x02
  | .wrongState => 0x03
  | .channelBusy => 0x04
  | .notHeld => 0x05
  | .channelDisabled => 0x06
  | .badSetting => 0x07
  | .inProgress => 0x08

/-- Station state codes, Table 12-2 (R183). -/
def StationState.byte : StationState → Byte
  | .unjoined => 0
  | .listening => 1
  | .joined => 2
  | .desync => 3
  | .leaving => 4
  | .halted => 5

/-- Halt cause codes, Table 12-2 (R183). -/
def HaltCause.byte : HaltCause → Byte
  | .none => 0
  | .lineFault => 1
  | .stationConflict => 2

/-- Channel state codes, Table 12-2 (R183). -/
def ChanState.byte : ChanState → Byte
  | .idle => 0
  | .placing => 1
  | .claiming => 2
  | .held => 3
  | .releasing => 4

/-- Entry state codes, Table 12-2 (R183). -/
def EntryState.byte : EntryState → Byte
  | .claiming => 0
  | .held => 1
  | .releasing => 2

/-- Outcome kind codes, Table 12-2 (R183). -/
def OutcomeKind.byte : OutcomeKind → Byte
  | .none => 0
  | .granted => 1
  | .refusedNoRoom => 2
  | .refusedNoEntry => 3
  | .refusedContested => 4
  | .withdrawn => 5
  | .released => 6
  | .yielded => 7
  | .dropped => 8

/-- Supply and shed state codes, Table 12-2 (R183). -/
def SupplyState.byte : SupplyState → Byte
  | .normal => 0
  | .low => 1

/-- Shed state codes, Table 12-2 (R183). -/
def ShedState.byte : ShedState → Byte
  | .idle => 0
  | .shedding => 1

/-- A window in two bytes; an absent one is start 0 and length 0 (R183). -/
def windowBytes : Option Window → List Byte
  | some w => [byteOf w.start, byteOf w.len]
  | none => [0, 0]

/-- The outcome byte of READ_CHANNEL: kind in bits 3 to 0, fresh mark in bit 7 (R183). -/
def outcomeByte (ch : Channel) : Byte := ch.outcome.byte ||| (if ch.fresh then 0x80 else 0x00)

/-- The fields of a READ_CHANNEL response, Table 12-3 (R72, R183). -/
def channelBytes (ch : Channel) : List Byte :=
  [ch.state.byte] ++ windowBytes ch.window ++ [byteOf ch.attempts, outcomeByte ch] ++ windowBytes ch.outcomeWindow

/-- The fields of a READ_ENTRY response, Table 12-3 (R22, R183). -/
def entryBytes : Option Entry → List Byte
  | none => [0, 0, 0, 0, 0, 0, 0]
  | some e => [1, byteOf e.owner, byteOf e.chan.val, byteOf e.win.start, byteOf e.win.len, byteOf e.weight, e.state.byte]

/-- The fields of a READ_PEER response, Table 12-3: an absent budget is 0xFF 0xFF, a record not present all zeros
(R117, R183): DEDUCED, unsafe (log entry 21). -/
def peerBytes (entries : Nat) : Option Peer → List Byte
  | none => [0, 0, 0, 0, 0, 0, 0, 0]
  | some p =>
    [1, byteOf p.number, byteOf p.silence] ++ (match p.budget with | some b => twoBytes b | none => [0xFF, 0xFF]) ++
      [markByte p.mismatch, markByte p.awaiting, byteOf entries]

/-- One slice of a READ_MAP response: a committed sum above 4095 is reported as 4095 (R22). -/
def sumsBytes (m : Sums) : List Byte := twoBytes (min m.committed 4095) ++ twoBytes m.tentative

/-- The bits of a host byte in the order they are shifted, most significant bit first (R163, R183). -/
def byteBits (b : Byte) : List Bool := natBits 8 b.toNat

/-- The byte that eight shifted bits make, most significant bit first (R163, R183). -/
def bitsByte (bits : List Bool) : Byte := byteOf (bitsNat bits)

/-- The bytes of a response in the order they are shifted out: ready marker, response fields, result byte (R165). -/
def Response.bytes (r : Response) : List Byte := 0x5A :: (r.fields ++ [r.result.byte])

/-! ### Settings by identifier -/

/-- What an identifier names, Table 12-4. -/
inductive SettingId where
  | stationNumber
  | lineRate
  | sliceLength
  | budget
  | summaryInterval
  | silenceLimit
  | shedHold
  | supplyThreshold
  | weight (c : Chan)
  | sheddable (c : Chan)
  | invert (c : Chan)
  deriving DecidableEq, Repr

/-- The setting an identifier names; every other identifier names none (Table 12-4). -/
def settingId (ident : Byte) : Option SettingId :=
  let n := ident.toNat
  if n = 0x01 then some .stationNumber
  else if n = 0x02 then some .lineRate
  else if n = 0x03 then some .sliceLength
  else if n = 0x04 then some .budget
  else if n = 0x05 then some .summaryInterval
  else if n = 0x06 then some .silenceLimit
  else if n = 0x07 then some .shedHold
  else if n = 0x08 then some .supplyThreshold
  else if 0x10 ≤ n ∧ n ≤ 0x17 then some (.weight (chanOf (n - 0x10)))
  else if 0x18 ≤ n ∧ n ≤ 0x1F then some (.sheddable (chanOf (n - 0x18)))
  else if 0x20 ≤ n ∧ n ≤ 0x27 then some (.invert (chanOf (n - 0x20)))
  else none

/-- The range of a setting, Table 8-3 (R135); a yes-or-no setting accepts only 0 and 1 (R183). -/
def SettingId.inRange (v : Nat) : SettingId → Bool
  | .stationNumber => v ≤ 32
  | .lineRate => v ≤ 3
  | .sliceLength => v ≤ 7
  | .budget => 1 ≤ v && v ≤ 4095
  | .summaryInterval => 2 ≤ v && v ≤ 32
  | .silenceLimit => 4 ≤ v && v ≤ 64
  | .shedHold => 1 ≤ v && v ≤ 64
  | .supplyThreshold => v ≤ 31
  | .weight _ => v ≤ 63
  | .sheddable _ => v ≤ 1
  | .invert _ => v ≤ 1

/-- The value of a setting (R136). -/
def Settings.value (s : Settings) : SettingId → Nat
  | .stationNumber => s.stationNumber
  | .lineRate => s.lineRate
  | .sliceLength => s.sliceLength
  | .budget => s.budget
  | .summaryInterval => s.summaryInterval
  | .silenceLimit => s.silenceLimit
  | .shedHold => s.shedHold
  | .supplyThreshold => s.supplyThreshold
  | .weight c => s.weight.get c
  | .sheddable c => (s.sheddable.get c).toNat
  | .invert c => (s.invert.get c).toNat

/-- The settings with one of them at a new value (R136). -/
def Settings.write (v : Nat) (s : Settings) : SettingId → Settings
  | .stationNumber => { s with stationNumber := v }
  | .lineRate => { s with lineRate := v }
  | .sliceLength => { s with sliceLength := v }
  | .budget => { s with budget := v }
  | .summaryInterval => { s with summaryInterval := v }
  | .silenceLimit => { s with silenceLimit := v }
  | .shedHold => { s with shedHold := v }
  | .supplyThreshold => { s with supplyThreshold := v }
  | .weight c => { s with weight := s.weight.set c v }
  | .sheddable c => { s with sheddable := s.sheddable.set c (v == 1) }
  | .invert c => { s with invert := s.invert.set c (v == 1) }

/-- Slice length in µs, Table 3-1 (R37). -/
def sliceMicros (code : Nat) : Nat := 25 * 2 ^ code

/-- Bit time T in µs (R97). -/
def bitMicros (rate : Nat) : Nat :=
  match rate with
  | 0 => 8
  | 1 => 4
  | 2 => 2
  | _ => 1

/-- The trip level in mV (R150). -/
def tripLevel (threshold : Nat) : Nat := 600 + 25 * threshold

/-- The release level in mV: one threshold step above the trip level (R150). -/
def releaseLevel (threshold : Nat) : Nat := tripLevel threshold + 25

/-- The re-send interval (R153). -/
def resendInterval (shedHold : Nat) : Nat := max 1 (shedHold / 2)

end Sys2Proof.Machine
end

