-- ==== Sys2Proof/Machine/Ops.lean ====
section
/-! DEFINITION. The operations every step is made of, block by block: the reservation table and its map, the peer
table, the channel records and their outputs, the transmit queue, Shed Control and the Supply Monitor. -/

namespace Sys2Proof.Machine

/-! ### Station states -/

/-- JOINED or DESYNC. -/
def StationState.online : StationState → Bool
  | .joined => true
  | .desync => true
  | _ => false

/-- The states with the receiver on and the Frame Timer running (R38, R99). -/
def StationState.running : StationState → Bool
  | .unjoined => false
  | .halted => false
  | _ => true

/-- The states whose driver makes attempts (R99). -/
def StationState.sends : StationState → Bool
  | .joined => true
  | .desync => true
  | .leaving => true
  | _ => false

/-! ### Windows and the occupancy map -/

/-- The window covers the slice. -/
def Window.covers (w : Window) (i : Nat) : Bool := w.start ≤ i && i < w.start + w.len

/-- An entry's weight counts in the tentative sums while it is CLAIMING, in the committed sums otherwise (R5). -/
def EntryState.tentative : EntryState → Bool
  | .claiming => true
  | _ => false

/-- The sums with an entry's weight added on its side (R6). -/
def Sums.add (e : Entry) (m : Sums) : Sums :=
  if e.state.tentative then { m with tentative := m.tentative + e.weight }
  else { m with committed := m.committed + e.weight }

/-- The sums with an entry's weight taken off its side (R6). -/
def Sums.sub (e : Entry) (m : Sums) : Sums :=
  if e.state.tentative then { m with tentative := m.tentative - e.weight }
  else { m with committed := m.committed - e.weight }

/-- The map with the covered slices changed and every other slice as it was (R6). -/
def mapOver (w : Window) (f : Sums → Sums) (m : Vector Sums 64) : Vector Sums 64 :=
  Vector.ofFn fun i => if w.covers i.val then f (m.get i) else m.get i

/-! ### The reservation table -/

/-- Position numbers in ascending order. -/
def positions : List (Fin 96) := List.finRange 96

/-- Slice numbers in ascending order. -/
def slices : List (Fin 64) := List.finRange 64

/-- What a position holds. -/
def Book.entry (b : Book) (p : Fin 96) : Option Entry := b.table.get p

/-- The entry's key is (owner, channel). -/
def Entry.isFor (owner : Nat) (c : Chan) (e : Entry) : Bool := e.owner == owner && e.chan == c

/-- The position of the entry for a key (R1). -/
def Book.find (b : Book) (owner : Nat) (c : Chan) : Option (Fin 96) :=
  positions.find? fun p => (b.entry p).any (Entry.isFor owner c)

/-- The lowest-numbered free position (R1). -/
def Book.lowestFree (b : Book) : Option (Fin 96) := positions.find? fun p => (b.entry p).isNone

/-- An entry placed at a free position, the map with it (R1, R6). -/
def Book.put (p : Fin 96) (e : Entry) (b : Book) : Book :=
  { table := b.table.set p (some e), map := mapOver e.win (Sums.add e) b.map }

/-- The entry of a position removed, the map with it (R1, R6). -/
def Book.drop (p : Fin 96) (b : Book) : Book :=
  match b.entry p with
  | none => b
  | some e => { table := b.table.set p none, map := mapOver e.win (Sums.sub e) b.map }

/-- A change of an entry's state at its position: the map changes only when the weight changes sides (R3, R6). -/
def Book.restate (p : Fin 96) (st : EntryState) (b : Book) : Book :=
  match b.entry p with
  | none => b
  | some e =>
    { table := b.table.set p (some { e with state := st })
      map := if e.state.tentative = st.tentative then b.map
        else mapOver e.win (fun m => Sums.add { e with state := st } (Sums.sub e m)) b.map }

/-- An entry added at the lowest free position; none when all 96 are occupied (R1). -/
def Book.add (e : Entry) (b : Book) : Option Book := b.lowestFree.map fun p => b.put p e

/-- The entry for a key removed, if there is one (R8, R10). -/
def Book.dropKey (owner : Nat) (c : Chan) (b : Book) : Book :=
  match b.find owner c with
  | none => b
  | some p => b.drop p

/-- The entry for a key put in another state, if there is one (R3). -/
def Book.restateKey (owner : Nat) (c : Chan) (st : EntryState) (b : Book) : Book :=
  match b.find owner c with
  | none => b
  | some p => b.restate p st

/-- Every entry an owner has, removed (R4, R11, R20, R120). -/
def Book.dropOwned (owner : Nat) (b : Book) : Book :=
  positions.foldl (fun b p => if (b.entry p).any (fun e => e.owner == owner) then b.drop p else b) b

/-- How many positions satisfy a test (R117, R175). -/
def Book.count (q : Entry → Bool) (b : Book) : Nat := positions.countP fun p => (b.entry p).any q

/-- The sum a fit test starts from: committed alone at evaluation (R8), committed plus tentative at placement
(R28). -/
def Sums.tested (withTentative : Bool) (m : Sums) : Nat :=
  m.committed + (if withTentative then m.tentative else 0)

/-- A window of a weight fits: in every slice it covers, the tested sum plus the weight is within the budget
(R8, R28). -/
def Book.fits (withTentative : Bool) (budget weight : Nat) (w : Window) (b : Book) : Bool :=
  slices.all fun i => !w.covers i.val || (b.map.get i).tested withTentative + weight ≤ budget

/-- The result of adding the listed entries of a summary: the book, the windows added, and whether all were
(R120). -/
structure Adoption where
  book : Book
  added : List Window
  complete : Bool
  deriving DecidableEq, Repr

/-- The listed entries added HELD one at a time, stopping at the first that finds no free position (R120). -/
def addListed (owner : Nat) : List Listed → Book → Adoption
  | [], b => ⟨b, [], true⟩
  | l :: t, b =>
    match b.add ⟨owner, l.chan, l.win, l.weight, .held⟩ with
    | none => ⟨b, [], false⟩
    | some b' =>
      let r := addListed owner t b'
      { r with added := l.win :: r.added }

/-- The weight of the entries of an owner in RELEASING that cover a slice (R123). -/
def Book.releasingWeight (owner : Nat) (i : Nat) (b : Book) : Nat :=
  (positions.map fun p =>
    match b.entry p with
    | some e => if e.owner == owner && e.state == .releasing && e.win.covers i then e.weight else 0
    | none => 0).sum

/-- The slices covered by an added window whose committed sum exceeds the budget (R123). -/
def overcommitted (budget : Nat) (added : List Window) (b : Book) : List (Fin 64) :=
  slices.filter fun i => added.any (fun w => w.covers i.val) && decide (budget < (b.map.get i).committed)

/-- Of those, the slices still above the budget without the own RELEASING weights (R123). -/
def unresolved (owner budget : Nat) (added : List Window) (b : Book) : List (Fin 64) :=
  (overcommitted budget added b).filter fun i =>
    decide (budget + b.releasingWeight owner i.val < (b.map.get i).committed)

/-! ### The peer table -/

/-- The record of a station (R113). -/
def findPeer (n : Nat) (ps : List Peer) : Option Peer := ps.find? fun p => p.number == n

/-- A record inserted at its place in ascending station order (R113). -/
def insertPeer (p : Peer) : List Peer → List Peer
  | [] => [p]
  | q :: t => if p.number < q.number then p :: q :: t else q :: insertPeer p t

/-- The record of a station changed. -/
def updatePeer (n : Nat) (f : Peer → Peer) (ps : List Peer) : List Peer :=
  ps.map fun p => if p.number = n then f p else p

/-- The record of a station removed, its awaiting-summary mark with it (R116). -/
def removePeer (n : Nat) (ps : List Peer) : List Peer := ps.filter fun p => p.number != n

/-- A record as it is created (R114). -/
def newPeer (n : Nat) (awaiting : Bool) : Peer := ⟨n, 0, none, false, awaiting⟩

/-! ### Channel records and outputs -/

/-- A channel record. -/
def State.chan (s : State) (c : Chan) : Channel := s.channels.get c

/-- One channel record replaced. -/
def State.setChan (c : Chan) (ch : Channel) (s : State) : State := { s with channels := s.channels.set c ch }

/-- One channel record changed. -/
def State.modChan (c : Chan) (f : Channel → Channel) (s : State) : State := s.setChan c (f (s.chan c))

/-- Every channel record changed. -/
def State.modChans (f : Chan → Channel → Channel) (s : State) : State :=
  { s with channels := Vector.ofFn fun c => f c (s.chan c) }

/-- The drive condition: HELD, live, not shed-suspended, the slice within the window (R67). -/
def Channel.drives (slice : Nat) (ch : Channel) : Bool :=
  ch.state == .held && ch.live && !ch.shedSuspended && ch.window.any (fun w => w.covers slice)

/-- The drive evaluation at a slice boundary or a frame start (R67). -/
def State.redrive (s : State) : State :=
  { s with driven := Vector.ofFn fun c => (s.chan c).drives s.timer.slice }

/-- The drive evaluation at an event that clears a live mark or sets a shed-suspended mark: it only deasserts
(R67). -/
def State.trimDrive (s : State) : State :=
  { s with driven := Vector.ofFn fun c => s.driven.get c && (s.chan c).drives s.timer.slice }

/-- Every output deasserted (R67, R73, R75). -/
def State.dropDrive (s : State) : State := { s with driven := Vector.replicate 8 false }

/-- The electrical level of LDn, high for true (R68). -/
def State.ldHigh (s : State) (c : Chan) : Bool := xor (s.driven.get c) (s.settings.invert.get c)

/-- A READ_CHANNEL of the channel has been formed and its outcome byte not yet shifted out whole (R72). -/
def readingOutcome (r : Option Response) (c : Chan) : Bool :=
  match r with
  | some ⟨.channel d false, _, _⟩ => d == c
  | _ => false

/-- An outcome written in a record: kind, window, fresh mark, and the rewrite mark where a READ_CHANNEL is
shifting (R71, R72). -/
def Channel.withOutcome (reading : Bool) (k : OutcomeKind) (w : Option Window) (ch : Channel) : Channel :=
  { ch with outcome := k, outcomeWindow := w, fresh := true, rewrite := ch.rewrite || reading }

/-- An outcome written for a channel, with CHANNEL_OUTCOME (R71). -/
def State.writeOutcome (c : Chan) (k : OutcomeKind) (w : Option Window) (s : State) : State :=
  (s.modChan c (Channel.withOutcome (readingOutcome s.host.response c) k w)).raise .channelOutcome

/-- A record returned to IDLE: window absent, the marks of a request in service cleared (R53, Table 4-2). -/
def Channel.toIdle (ch : Channel) : Channel :=
  { ch with state := .idle, window := none, releasePending := false, reRequest := false, live := false }

/-- A channel ended with an outcome that names no window (Table 4-2). -/
def State.endChannel (c : Chan) (k : OutcomeKind) (s : State) : State :=
  (s.modChan c Channel.toIdle).writeOutcome c k none

/-- Live marks at a frame start: HELD and not shed-suspended; a live channel stays live (R65). -/
def Channel.makeLive (ch : Channel) : Channel :=
  { ch with live := ch.live || (ch.state == .held && !ch.shedSuspended) }

/-! ### The transmit queue -/

/-- The body is a SYNC. -/
def TxBody.isSync : TxBody → Bool
  | .sync _ => true
  | _ => false

/-- The body is a SHED. -/
def TxBody.isShed : TxBody → Bool
  | .shed => true
  | _ => false

/-- The body is a SUMMARY. -/
def TxBody.isSummary : TxBody → Bool
  | .summary => true
  | _ => false

/-- The body is a LEAVE. -/
def TxBody.isLeave : TxBody → Bool
  | .leave => true
  | _ => false

/-- The body is the CLAIM of a channel. -/
def TxBody.isClaimOf (c : Chan) : TxBody → Bool
  | .claim d _ _ => d == c
  | _ => false

/-- The kinds a leave withdraws and does not retry (R85, R88). -/
def TxBody.endsAtLeave : TxBody → Bool
  | .release _ => true
  | .claim _ _ _ => true
  | .summary => true
  | _ => false

/-- A notice as it enters the queue: attempt count 0, not in an attempt (R84). -/
def TxItem.new (b : TxBody) : TxItem := ⟨b, 0, false⟩

/-- A kind is present, queued or in an attempt (R82). -/
def present (q : TxBody → Bool) (l : List TxItem) : Bool := l.any fun i => q i.body

/-- A SYNC placed at the head, unless one is present (R42, R81, R82). -/
def placeSync (f : Nat) (l : List TxItem) : List TxItem :=
  if present TxBody.isSync l then l else .new (.sync f) :: l

/-- A SHED placed behind the SYNC or at the head, unless one is present (R81, R82). -/
def placeShed (l : List TxItem) : List TxItem :=
  if present TxBody.isShed l then l
  else match l with
    | i :: t => if i.body.isSync then i :: .new .shed :: t else .new .shed :: i :: t
    | [] => [.new .shed]

/-- A CLAIM or RELEASE placed at the tail (R81). -/
def placeTail (b : TxBody) (l : List TxItem) : List TxItem := l ++ [.new b]

/-- A SUMMARY placed at the tail, unless one is present (R82, R90). -/
def placeSummary (l : List TxItem) : List TxItem :=
  if present TxBody.isSummary l then l else placeTail .summary l

/-- A LEAVE placed at the tail, unless one is present (R82, R88). -/
def placeLeave (l : List TxItem) : List TxItem :=
  if present TxBody.isLeave l then l else placeTail .leave l

/-- The items of some kinds withdrawn, but for one in an attempt (R89). -/
def withdrawItems (q : TxBody → Bool) (l : List TxItem) : List TxItem :=
  l.filter fun i => i.inAttempt || !q i.body

/-- The queue without the item in an attempt. -/
def dropAttempt (l : List TxItem) : List TxItem := l.filter fun i => !i.inAttempt

/-- The item in an attempt left at its place with a new count, its mark cleared (R85). -/
def keepAttempt (count : Nat) (l : List TxItem) : List TxItem :=
  l.map fun i => if i.inAttempt then { i with count := count, inAttempt := false } else i

/-- The item in an attempt (R80). -/
def attemptItem (l : List TxItem) : Option TxItem := l.find? fun i => i.inAttempt

/-- The payload of a SUMMARY as its attempt captures it: the budget, and each HELD or RELEASING channel in
ascending order with its window and weight (R78). -/
def State.summaryEntries (s : State) : List Listed :=
  (List.finRange 8).filterMap fun c =>
    match (s.chan c).state, (s.chan c).window with
    | .held, some w => some ⟨c, w, s.settings.weight.get c⟩
    | .releasing, some w => some ⟨c, w, s.settings.weight.get c⟩
    | _, _ => none

/-- The notice an item sends in an attempt that starts now (R78). -/
def State.noticeOf (s : State) : TxBody → Notice
  | .sync f => .sync f
  | .shed => .shed
  | .release c => .release c
  | .claim c w wt => .claim c w wt
  | .leave => .leave
  | .summary => .summary s.settings.budget s.summaryEntries

/-! ### Shed Control -/

/-- A SHED placed in JOINED or DESYNC (Table 5-2). -/
def State.sendShed (s : State) : State :=
  if s.station.online then { s with txQueue := placeShed s.txQueue } else s

/-- The shed-suspended mark set, and the live mark cleared, on a sheddable channel (R66). -/
def Channel.suspend (ch : Channel) : Channel := { ch with shedSuspended := true, live := false }

/-- Entry to SHEDDING (R154). -/
def State.enterShed (send : Bool) (s : State) : State :=
  let s := { s with shed :=
    ⟨.shedding, s.settings.shedHold,
      if s.supply.state = SupplyState.low then resendInterval s.settings.shedHold else 0⟩ }
  let s := (s.modChans fun c ch => if s.settings.sheddable.get c then ch.suspend else ch).trimDrive
  (if send then s.sendShed else s).raise .shedStart

/-- A restart of the hold during a shed (R155). -/
def State.restartShed (localLow send : Bool) (s : State) : State :=
  let s := { s with shed := { s.shed with
    hold := s.settings.shedHold
    resend := if localLow then resendInterval s.settings.shedHold else s.shed.resend } }
  if send then s.sendShed else s

/-- A cause of shedding reaches Shed Control: it enters or restarts a shed in JOINED and DESYNC, and does nothing
in any other state (R153 to R155). -/
def State.shedCause (localLow send : Bool) (s : State) : State :=
  if s.station.online then
    match s.shed.state with
    | .idle => s.enterShed send
    | .shedding => s.restartShed localLow send
  else s

/-- Shed Control back to IDLE with every shed-suspended mark cleared, without SHED_END (R161). -/
def State.cancelShed (s : State) : State :=
  { s.modChans (fun _ ch => { ch with shedSuspended := false }) with shed := .idle }

/-- The hold count at 0 ends the shed (R158). -/
def State.endShed (s : State) : State :=
  if s.shed.state = .shedding ∧ s.shed.hold = 0 then s.cancelShed.raise .shedEnd else s

/-- The re-send count at 0 while the supply is LOW places a SHED and restarts the count (R157). -/
def State.resendShed (s : State) : State :=
  if s.shed.state = .shedding ∧ s.supply.state = .low ∧ s.shed.resend = 0 then
    ({ s with shed := { s.shed with resend := resendInterval s.settings.shedHold } }).sendShed
  else s

/-- Shed Control's step at a frame start in JOINED or DESYNC, by the supply state as it stands (R156, R157). With the supply
NORMAL a hold count that reaches 0 ends the shed, also where SHED_HOLD is 1 and a SHED_NOW or a heard SHED has just set
it, of which R159 says that the shed goes on: DEDUCED, unsafe (log entry 28). -/
def State.stepShed (s : State) : State :=
  match s.shed.state, s.supply.state with
  | .idle, _ => s
  | .shedding, .low => State.resendShed { s with shed := { s.shed with resend := s.shed.resend - 1 } }
  | .shedding, .normal => State.endShed { s with shed := { s.shed with hold := s.shed.hold - 1 } }

/-! ### Supply Monitor -/

/-- The sample is qualifying: below the trip level in NORMAL, at or above the release level in LOW (R150). -/
def qualifies (threshold sns : Nat) : SupplyState → Bool
  | .normal => sns < tripLevel threshold
  | .low => releaseLevel threshold ≤ sns

/-- A comparator sample with its hand-off to Shed Control (R152, R154, R155). -/
def State.sample (sns : Nat) (s : State) : State :=
  if qualifies s.settings.supplyThreshold sns s.supply.state then
    if s.supply.history = 0 then { s with supply := { s.supply with history := 1 } }
    else match s.supply.state with
      | .normal => State.shedCause true true { s with supply := { s.supply with state := .low, history := 0 } }
      | .low =>
        { s with
          supply := { s.supply with state := .normal, history := 0 }
          shed := if s.shed.state = .shedding then { s.shed with resend := 0 } else s.shed }
  else { s with supply := { s.supply with history := 0 } }

/-- The free-running sampler starts, its first tick one slice length on (R151). -/
def State.startSampler (s : State) : State :=
  { s with supply := { s.supply with samplerRunning := true, samplerInterval := sliceMicros s.settings.sliceLength } }

end Sys2Proof.Machine
end

