-- ==== Sys2Proof/Machine/Station.lean ====
section
/-! DEFINITION. The moves that reach several blocks at once: frame starts and realignment, entry to DESYNC and the
return from it, withdrawals, the halt, the leave and the resets. -/

namespace Sys2Proof.Machine

/-! ### Counts of READ_STATUS -/

/-- The counts of the tables as they stand (R175). -/
def State.tableCounts (s : State) : Counts :=
  ⟨s.peers.length, s.book.count fun _ => true, s.book.count fun e => e.owner == s.settings.stationNumber⟩

/-- The counts READ_STATUS reports: those of the last point where the Table Unit was free (R175). -/
def State.reportedCounts (s : State) : Counts :=
  match s.unit.job with
  | none => s.tableCounts
  | some _ => s.unit.lastCounts

/-! ### DESYNC -/

/-- The return to JOINED: DESYNC and no record carries a mark (R130). -/
def State.returnToJoined (s : State) : State :=
  if s.station = .desync ∧ s.peers.all (fun p => !p.awaiting) then
    ({ s with station := .joined }).raise .resyncDone
  else s

/-- The refill of the resync set: every record gets its awaiting-summary mark; with no record the station returns
to JOINED at once (R126). -/
def State.refill (s : State) : State :=
  let s := { s with
    peers := s.peers.map (fun p : Peer => { p with awaiting := true })
    unit := { s.unit with refillWaiting := false } }
  if s.peers.isEmpty then s.returnToJoined else s

/-- A refill that waits is made when the Table Unit is free; outside DESYNC it is dropped (R126). -/
def State.waitingRefill (s : State) : State :=
  if s.unit.refillWaiting then
    if s.station = .desync then s.refill else { s with unit := { s.unit with refillWaiting := false } }
  else s

/-- Entry or re-entry to DESYNC, with its refill at once or waiting for the running job (R125, R126). -/
def State.enterDesync (s : State) : State :=
  let s := State.raise .desync { s with station := .desync, unit := { s.unit with refillWaiting := true } }
  if s.unit.job.isNone then s.waitingRefill else s

/-- A cause that may have left the table short: DESYNC in JOINED and DESYNC, the listen count restarted in
LISTENING, nothing in LEAVING (R94, R95, R21, R139). -/
def State.tableDoubt (s : State) : State :=
  match s.station with
  | .joined => s.enterDesync
  | .desync => s.enterDesync
  | .listening => { s with listenCount := s.settings.silenceLimit }
  | _ => s

/-! ### Withdrawals -/

/-- A withdrawal: the channel's own CLAIMING entry is freed and the channel is IDLE with WITHDRAWN; a channel that
has moved on is left as it is (R17). -/
def State.withdraw (c : Chan) (s : State) : State :=
  if (s.chan c).state = .claiming then
    State.endChannel c .withdrawn { s with book := s.book.dropKey s.settings.stationNumber c }
  else s

/-- A withdrawal asked for by the Transmit Unit: at once when no job runs, else when the job ends (R17). -/
def State.askWithdrawal (c : Chan) (s : State) : State :=
  if s.unit.job.isNone then s.withdraw c
  else { s with unit := { s.unit with withdrawals := s.unit.withdrawals ++ [c] } }

/-- One waiting withdrawal carried out (R17). -/
def State.waitingWithdrawal (c : Chan) (s : State) : State :=
  if c ∈ s.unit.withdrawals then
    State.withdraw c { s with unit := { s.unit with withdrawals := s.unit.withdrawals.filter (· != c) } }
  else s

/-- Every waiting withdrawal carried out, before the next grant (R17). -/
def State.waitingWithdrawals (s : State) : State :=
  s.unit.withdrawals.foldl (fun s c => s.waitingWithdrawal c) s

/-! ### The leave's effect on the channels -/

/-- What a leave does to one channel: PLACING and CLAIMING are withdrawn, every release-pending and re-request mark
is cleared (R73). -/
def State.leaveChannel (c : Chan) (s : State) : State :=
  let s := match (s.chan c).state with
    | .placing => s.endChannel c .withdrawn
    | .claiming => s.withdraw c
    | _ => s
  s.modChan c fun ch => { ch with releasePending := false, reRequest := false }

/-- The effect of a leave on every channel, with the clearing of the awaiting-summary marks (R73, R131). -/
def State.leaveChannels (s : State) : State :=
  let s := (List.finRange 8).foldl (fun s c => s.leaveChannel c) s
  { s with
    peers := s.peers.map (fun p : Peer => { p with awaiting := false })
    unit := { s.unit with leaveWaiting := false } }

/-- The channel effects of a leave taken while a job ran, at the end of that job (R73). -/
def State.waitingLeave (s : State) : State := if s.unit.leaveWaiting then s.leaveChannels else s

/-- The end of a Table Unit job: the unit is free, and what waited for it is carried out before the next grant:
the channel effects of a leave, the withdrawals, the refill (R15, R17, R73, R126): DESIGN CHOICE, safe (log entry 4). -/
def State.freeUnit (s : State) : State :=
  ({ s with unit := { s.unit with job := none } }).waitingLeave.waitingWithdrawals.waitingRefill

/-! ### The frame start -/

/-- The summary timer at SUMMARY_INTERVAL returns to 0 and a SUMMARY is placed (R90). -/
def State.summaryDue (s : State) : State :=
  if s.station.online ∧ s.settings.summaryInterval ≤ s.summaryTimer then
    { s with summaryTimer := 0, txQueue := placeSummary s.txQueue }
  else s

/-- The listen count at 0 ends listening (R140); with the supply LOW the first shed starts (R154). -/
def State.endListening (s : State) : State :=
  if s.station = .listening ∧ s.listenCount = 0 then
    let s := State.raise .joinDone
      { s with station := .joined, summaryTimer := 0, txQueue := placeSummary s.txQueue }
    if s.supply.state = .low then s.shedCause true true else s
  else s

/-- The Channel Block's part of a frame start: live marks in JOINED and DESYNC, then the drive evaluation for the
new slice 0 (R65, R67). -/
def State.frameChannels (s : State) : State :=
  State.redrive (if s.station.online then s.modChans (fun _ ch => ch.makeLive) else s)

/-- The frame start: each block acts on its own state (R48, Table 3-4). The channels that were shed-suspended when
it arrived are not made live by it (R158), and a frame start that ends listening steps neither the summary timer
nor the shed (R90, R140). It carries the ends of the counts itself: DESIGN CHOICE, safe (log entry 3). -/
def State.frameStart (s : State) : State :=
  let s := { s with timer := { s.timer with sweepPending := min Config.silenceCap (s.timer.sweepPending + 1) } }
  let s := s.frameChannels
  if s.station.online then
    let s := s.stepShed
    State.summaryDue { s with summaryTimer := s.summaryTimer + 1 }
  else if s.station = .listening then State.endListening { s with listenCount := s.listenCount - 1 }
  else s

/-- The next frame begun by the timer itself (R41, R44). -/
def State.ownFrame (s : State) : State :=
  State.frameStart { s with timer := { s.timer with slice := 0, frame := (s.timer.frame + 1) % 256, hold := false } }

/-- Realignment at the completion of a good SYNC, with SYNC_SLIP where the SYNC came early or carried another
number (R45, R46). -/
def State.realign (f : Nat) (s : State) : State :=
  if s.timer.running then
    let slip := decide (s.timer.slice < Config.slipSlice) || f != (s.timer.frame + 1) % 256
    let s := s.raiseIf slip .syncSlip
    State.frameStart { s with
      timer := { s.timer with slice := 0, frame := f, hold := false }
      txQueue := withdrawItems TxBody.isSync s.txQueue }
  else s

/-- During a hold in JOINED or DESYNC a SYNC is queued if none is (R42, R43). -/
def State.offerSync (s : State) : State :=
  if s.timer.hold ∧ s.station.online then
    { s with txQueue := placeSync ((s.timer.frame + 1) % 256) s.txQueue }
  else s

/-- An own SYNC has left the queue without completing, or a leave has been taken in a hold: in JOINED and DESYNC a
SYNC is offered, in LEAVING with none left the hold ends by itself (R43, R44). -/
def State.holdWithoutSync (s : State) : State :=
  if s.station = .leaving ∧ s.timer.hold ∧ !present TxBody.isSync s.txQueue then s.ownFrame else s.offerSync

/-! ### Entry to UNJOINED and HALTED, and the resets -/

/-- What every entry to UNJOINED and HALTED does: outputs off, line quiet, queues and tables empty, a running job
abandoned with all that waited for it, timers stopped, the free-running sampler started (R23, R39, R90, R96, R112,
R116, R143, R145, R147, R151). -/
def State.goQuiet (s : State) : State :=
  State.startSampler { s with
    listenCount := 0
    line := LineInterface.quiet
    txQueue := []
    summaryTimer := 0
    rxQueue := []
    timer := FrameTimer.stopped
    book := Book.empty
    peers := []
    unit := TableUnit.free
    grants := []
    driven := Vector.replicate 8 false }

/-- The channels a test picks dropped: IDLE with DROPPED, their marks cleared; CHANNEL_OUTCOME if any was (R71,
R74, R75). The fresh and rewrite marks stay: DEDUCED, unsafe (log entry 12). -/
def State.dropChannels (q : ChanState → Bool) (s : State) : State :=
  let any := (List.finRange 8).any fun c => q (s.chan c).state
  (s.modChans fun c ch =>
    let ch' := { ch with releasePending := false, reRequest := false, live := false, shedSuspended := false }
    if q ch.state then ch'.toIdle.withOutcome (readingOutcome s.host.response c) .dropped none
    else ch').raiseIf any .channelOutcome

/-- The channel states whose window a delivered leave drops (R74). -/
def ChanState.dropsAtLeave : ChanState → Bool
  | .claiming => true
  | .held => true
  | .releasing => true
  | _ => false

/-- Entry to UNJOINED by a leave: its completion, or the command in LISTENING (R143, R144). Shed Control is IDLE in
every state but JOINED and DESYNC (R153), and the halt cause NONE in every state but HALTED (R133):
DESIGN CHOICE, safe (log entry 25). -/
def State.leaveDone (s : State) : State :=
  State.raise .leaveDone
    { (s.dropChannels ChanState.dropsAtLeave).cancelShed.goQuiet with station := .unjoined, haltCause := .none }

/-- Entry to HALTED (R145). -/
def State.halt (cause : HaltCause) (s : State) : State :=
  State.raise .halted
    { (s.dropChannels fun st => st != .idle).cancelShed.goQuiet with station := .halted, haltCause := cause }

/-- Every block but the settings and the Event Block at its reset values; the pins CS# and SDO stay as they are,
and so do the reset lines and the queue of commands (R148, R149). -/
def State.resetBlocks (s : State) : State :=
  { State.reset with
    settings := s.settings
    events := s.events
    host := { HostPort.reset with csLow := s.host.csLow, sdoDriven := s.host.sdoDriven }
    resets := s.resets
    pending := s.pending }

/-- The effect of SOFT_RESET: settings and event mask kept, flags cleared, the free-running sampler restarted; the
rest of the open transaction is filler (R149, R151, R170): DESIGN CHOICE, unsafe (log entry 17). -/
def State.softReset (s : State) : State :=
  State.startSampler { s.resetBlocks with events := ⟨0, 0, s.events.mask⟩ }

/-- Every block held at its reset values by RST# or by a power-on reset: the sampler does not run until the reset
ends, and SDO is high-impedance (R148, R151, R162, R184). -/
def State.holdReset (s : State) : State :=
  let s := { s.resetBlocks with settings := Settings.reset, events := ⟨0, 0, 0⟩ }
  { s with
    supply := ⟨.normal, 0, false, sliceMicros Settings.reset.sliceLength⟩
    host := { s.host with sdoDriven := false } }

/-- A reset is being taken. -/
def State.inReset (s : State) : Bool := s.resets.pin || s.resets.power

/-- A reset line let go: when no reset is taken any more, the station runs as UNJOINED with its sampler started
(R148, R151). -/
def State.leaveReset (s : State) : State := if s.inReset then s else s.startSampler

end Sys2Proof.Machine
end

