-- ==== Sys2Proof/Machine/Port.lean ====
section
/-! DEFINITION. The Host Port: taking a command, its checks and its effect, its response, the held and the latched
command (R162 to R176), and the station moves a command makes: JOIN, LEAVE, SHED_NOW, a setting. -/

namespace Sys2Proof.Machine

/-! ### Responses -/

/-- How many response fields an OK result of the command gives (Table 12-3, R166). -/
def HostCmd.fieldCount : HostCmd → Nat
  | .readStatus => 10
  | .readEvents => 2
  | .readSetting _ => 2
  | .readChannel _ => 7
  | .readEntry _ => 7
  | .readPeer _ => 8
  | .readMap _ c => if 1 ≤ c.toNat ∧ c.toNat ≤ 64 then 4 * c.toNat else 0
  | _ => 0

/-- The response of a command: its fields with OK; with any other result as many zeros (R166). -/
def HostCmd.respond (cmd : HostCmd) (kind : RespKind) (fields : List Byte) (r : ResultCode) : Response :=
  if r = .ok then ⟨kind, fields, r⟩ else ⟨.plain, List.replicate cmd.fieldCount 0, r⟩

/-- The response buffer filled: the response is ready, and the next byte chosen is the ready marker (R165, R166). The
phase is WAITING until then (R162). -/
def State.answerWith (r : Response) (s : State) : State :=
  { s with host := { s.host with response := some r, phase := .waiting } }

/-- A read whose fields are formed when its ready marker is chosen (R166). -/
def Response.toForm : Response := ⟨.unformed, [], .ok⟩

/-- A command answered with a result and no response fields of its own. -/
def State.answer (cmd : HostCmd) (r : ResultCode) (s : State) : State := s.answerWith (cmd.respond .plain [] r)

/-- The fields of READ_STATUS, Table 10-4 (R175, R183). -/
def State.statusBytes (s : State) : List Byte :=
  [s.station.byte, s.haltCause.byte, byteOf s.timer.frame, byteOf s.timer.slice, byteOf s.reportedCounts.peers,
    byteOf s.reportedCounts.entries, byteOf s.reportedCounts.own, byteOf s.txQueue.length, s.supply.state.byte,
    s.shed.state.byte]

/-- The two flag bytes (R179, R183). -/
def EventBlock.flagBytes (b : EventBlock) : List Byte := [b.flags.extractLsb' 0 8, b.flags.extractLsb' 8 8]

/-! ### Settings -/

/-- WRITE_SETTING's checks in their order (R136). -/
def State.writeCheck (ident hi lo : Byte) (s : State) : ResultCode :=
  match settingId ident with
  | none => .badParameter
  | some i =>
    if s.station ≠ .unjoined then .wrongState
    else if !i.inRange (pairNat hi lo) then .badParameter
    else .ok

/-- An accepted write: the setting takes the value; a new SLICE_LENGTH restarts the sampler's interval and a new
SUPPLY_THRESHOLD sets the sample history to 0; a write of the value held changes nothing (R136, R151):
DEDUCED, unsafe (log entry 13). -/
def State.writeSetting (i : SettingId) (v : Nat) (s : State) : State :=
  if s.settings.value i = v then s
  else
    let s := { s with settings := s.settings.write v i }
    match i with
    | .sliceLength => { s with supply := { s.supply with samplerInterval := sliceMicros v } }
    | .supplyThreshold => { s with supply := { s.supply with history := 0 } }
    | _ => s

/-! ### JOIN -/

/-- JOIN's checks in their order (R137). -/
def State.joinCheck (s : State) : ResultCode :=
  if s.station ≠ .unjoined then .wrongState
  else if s.settings.stationNumber = 0 then .badSetting
  else if s.settings.silenceLimit < 2 * s.settings.summaryInterval then .badSetting
  else if 64 * sliceMicros s.settings.sliceLength < 1024 * bitMicros s.settings.lineRate then .badSetting
  else .ok

/-- An accepted JOIN: LISTENING, the receiver on, the Frame Timer at slice 0 of frame 0 without a frame start, the
free-running sampler stopped (R39, R137, R151). -/
def State.startListening (s : State) : State :=
  { s with
    station := .listening
    haltCause := .none
    listenCount := s.settings.silenceLimit
    line := LineInterface.quiet
    timer := { FrameTimer.stopped with running := true }
    supply := { s.supply with samplerRunning := false } }

/-! ### LEAVE -/

/-- LEAVE's result by station state (R141). -/
def State.leaveCheck (s : State) : ResultCode :=
  match s.station with
  | .unjoined => .wrongState
  | .leaving => .inProgress
  | _ => .ok

/-- A leave taken in JOINED or DESYNC (R44, R73, R88, R131, R142, R161). -/
def State.beginLeave (s : State) : State :=
  let s := { s.cancelShed with
    station := .leaving
    txQueue := placeLeave (withdrawItems TxBody.endsAtLeave s.txQueue) }
  let s := (s.modChans fun _ ch => { ch with live := false }).dropDrive
  let s := { s with unit := { s.unit with leaveWaiting := true, refillWaiting := false } }
  State.holdWithoutSync (if s.unit.job.isNone then s.waitingLeave else s)

/-- LEAVE's effect by station state (R141, R142, R144). -/
def State.leaveCommand (s : State) : State :=
  match s.station with
  | .listening => s.leaveDone
  | .joined => s.beginLeave
  | .desync => s.beginLeave
  | .halted => State.raise .leaveDone (State.startSampler { s with station := .unjoined, haltCause := .none })
  | _ => s

/-! ### REQUEST and RELEASE checks -/

/-- The mode a REQUEST's mode byte names (R183). -/
def modeOf (m : Byte) : ReqMode := if m.toNat = 0 then .atMode else .fromMode

/-- A REQUEST's parameters are within their ranges (R55, first check). -/
def requestParamsOk (chan mode start len : Byte) : Bool :=
  chan.toNat ≤ 7 && mode.toNat ≤ 1 && start.toNat ≤ 63 && 1 ≤ len.toNat && len.toNat ≤ 64 &&
    (mode.toNat == 1 || start.toNat + len.toNat ≤ 64)

/-- REQUEST's checks in their order (R55). -/
def State.requestCheck (chan mode start len : Byte) (s : State) : ResultCode :=
  if !requestParamsOk chan mode start len then .badParameter
  else if s.settings.weight.get (chanOf chan.toNat) = 0 then .channelDisabled
  else if !s.station.online then .wrongState
  else if (s.chan (chanOf chan.toNat)).state ≠ .idle then .channelBusy
  else .ok

/-- RELEASE's checks in their order; `pendingSet`: its release-pending mark was set when it was taken (R56). -/
def State.releaseCheck (chan : Byte) (pendingSet : Bool) (s : State) : ResultCode :=
  if 7 < chan.toNat then .badParameter
  else if pendingSet then .ok
  else if !s.station.online then .wrongState
  else
    let ch := s.chan (chanOf chan.toNat)
    if ch.state = .idle then .notHeld
    else if ch.state = .releasing ∨ (ch.state = .claiming ∧ ch.releasePending) then .inProgress
    else .ok

/-- READ_MAP's parameters are within their ranges (R22). -/
def mapParamsOk (first count : Byte) : Bool :=
  1 ≤ count.toNat && count.toNat ≤ 64 && first.toNat + count.toNat ≤ 64

/-! ### Carrying a command out -/

/-- A command carried out at the port. A REQUEST or RELEASE in the running states and a read within its ranges wait
for their HOST job instead (R166, R173, R174, R176). -/
def State.carryOut (t : Taken) (s : State) : State :=
  match t.cmd with
  | .nop => s.answer t.cmd .ok
  | .readStatus => s.answerWith Response.toForm
  | .readEvents => s.answerWith Response.toForm
  | .writeEventMask m1 m2 => ({ s with events := { s.events with mask := m2 ++ m1 } }).answer t.cmd .ok
  | .readSetting i =>
    match settingId i with
    | none => s.answer t.cmd .badParameter
    | some id => s.answerWith (t.cmd.respond .plain (twoBytes (s.settings.value id)) .ok)
  | .writeSetting i hi lo =>
    let r := s.writeCheck i hi lo
    State.answer t.cmd r
      (match r, settingId i with
        | .ok, some id => s.writeSetting id (pairNat hi lo)
        | _, _ => s)
  | .join => State.answer t.cmd s.joinCheck (if s.joinCheck = .ok then s.startListening else s)
  | .leave => State.answer t.cmd s.leaveCheck s.leaveCommand
  | .request c m st l => if s.station.running then s else s.answer t.cmd (s.requestCheck c m st l)
  | .release c => if s.station.running then s else s.answer t.cmd (s.releaseCheck c t.pendingSet)
  | .readChannel c =>
    if 7 < c.toNat then s.answer t.cmd .badParameter
    else s.answerWith Response.toForm
  | .readEntry i => if 95 < i.toNat then s.answer t.cmd .badParameter else s
  | .readPeer i => if 30 < i.toNat then s.answer t.cmd .badParameter else s
  | .readMap f c => if mapParamsOk f c then s else s.answer t.cmd .badParameter
  | .shedNow => if s.station.online then (s.shedCause false true).answer t.cmd .ok else s.answer t.cmd .wrongState

/-- A RELEASE taken while its channel's PLACEMENT job runs, in JOINED or DESYNC (R57, R173). -/
def State.setsPending (cmd : HostCmd) (s : State) : Bool :=
  match cmd with
  | .release c => decide (c.toNat ≤ 7) && s.station.online && s.unit.job == some (.placement (chanOf c.toNat))
  | _ => false

/-- The release-pending mark a RELEASE sets as it is taken (R16, R57, R173). -/
def State.markTaken (cmd : HostCmd) (s : State) : State :=
  match cmd with
  | .release c =>
    if s.setsPending cmd then s.modChan (chanOf c.toNat) fun ch => { ch with releasePending := true } else s
  | _ => s

/-- A command taken: at the end of its last byte, or for a latched one at the end of the held command (R163, R166,
R169). -/
def State.take (cmd : HostCmd) (s : State) : State :=
  let t : Taken := ⟨cmd, s.setsPending cmd⟩
  let s := s.markTaken cmd
  State.carryOut t { s with host := { s.host with current := some t, response := none, phase := .waiting } }

/-- A command shifted in whole in the open transaction: taken, or latched behind a held command (R163, R169). Outside
phase COMMAND it does not come: no transaction is open, or it has carried its command or part of one (R163, R170). -/
def State.receive (cmd : HostCmd) (s : State) : State :=
  if s.host.phase ≠ .command then s
  else if s.host.held.isSome then
    { s with host := { s.host with current := some ⟨cmd, false⟩, phase := .waiting } }
  else s.take cmd

/-- The held command is done with: the mark is cleared with it, and a latched command is taken at that moment
(R169). -/
def State.releaseHeld (s : State) : State :=
  let s := { s with host := { s.host with held := none } }
  match s.host.current, s.host.response with
  | some t, none => s.take t.cmd
  | _, _ => s

/-- The command that waits for a HOST job, or whose HOST job runs: the held command if there is one, else the
current command while its response is not ready (R14, R168, R169). -/
def HostPort.waitingCommand (h : HostPort) : Option Taken :=
  match h.held with
  | some t => some t
  | none => if h.response.isNone then h.current else none

/-- REQUEST and RELEASE are answered without a job once the station is UNJOINED or HALTED (R173). -/
def HostCmd.answeredAtEntry : HostCmd → Bool
  | .request _ _ _ _ => true
  | .release _ => true
  | _ => false

/-- The result of a REQUEST or RELEASE that the Host Port answers itself (R173). -/
def State.portResult (t : Taken) (s : State) : ResultCode :=
  match t.cmd with
  | .request c m st l => s.requestCheck c m st l
  | .release c => s.releaseCheck c t.pendingSet
  | _ => .ok

/-- The waiting command at entry to UNJOINED or HALTED: a REQUEST or RELEASE is answered, WRONG_STATE where its job
was abandoned (DEDUCED, unsafe: log entry 23); a read waits for a new job (R169, R173, R174). -/
def State.portAtEntry (abandoned : Bool) (s : State) : State :=
  match s.host.waitingCommand with
  | none => s
  | some t =>
    if t.cmd.answeredAtEntry then
      if s.host.held.isSome then s.releaseHeld
      else s.answer t.cmd (if abandoned then .wrongState else s.portResult t)
    else s

/-- A HOST job is running. -/
def State.hostJobRuns (s : State) : Bool :=
  match s.unit.job with
  | some (.host _) => true
  | _ => false

/-- A report of LINE_FAULT or STATION_CONFLICT: the station halts, unless it is UNJOINED or HALTED (R145, R146). -/
def State.haltReport (cause : HaltCause) (s : State) : State :=
  if s.station.running then State.portAtEntry s.hostJobRuns (s.halt cause) else s

/-! ### The transaction -/

/-- A falling edge of CS# (R163). What the host will clock in on SDI stays as the world outside has put it. -/
def State.openTransaction (s : State) : State :=
  if s.host.csLow then s
  else if s.inReset then { s with host := { s.host with csLow := true } }
  else
    { s with
      host := { s.host with csLow := true, sdoDriven := true, phase := .command, current := none, response := none }
      serial := { SerialPort.quiet with sdi := s.serial.sdi } }

/-- What a close does to the marks of read-to-clear bytes not shifted out whole: their second-occurrence marks and
the rewrite mark are cleared, flags and fresh marks stay (R72, R168, R179). -/
def State.closeReads (s : State) : State :=
  match s.host.response with
  | some ⟨.events _ _, _, _⟩ =>
    { s with events := { s.events with seconds := s.events.seconds &&& ~~~unshiftedFlags s.host.response } }
  | some ⟨.channel c false, _, _⟩ => s.modChan c fun ch => { ch with rewrite := false }
  | _ => s

/-- A rising edge of CS# (R163, R167, R168): a partial command and a response are discarded, a waiting command
becomes the held command, a latched command is discarded. -/
def State.closeTransaction (s : State) : State :=
  if !s.host.csLow then s
  else
    let s := s.closeReads
    let held := match s.host.held with
      | some t => some t
      | none => if s.host.response.isNone then s.host.current else none
    { s with
      host := { s.host with
        csLow := false, sdoDriven := false, phase := .closed, current := none, held := held, response := none }
      serial := SerialPort.quiet }

/-- A READ_EVENTS flag byte shifted out whole (R179). -/
def State.flagByteEnds (s : State) : State :=
  match s.host.response with
  | some ⟨.events reported n, fields, r⟩ =>
    if n < 2 then
      { s with
        events := s.events.endOfByte (flagByteMask n) reported
        host := { s.host with response := some ⟨.events reported (n + 1), fields, r⟩ } }
    else s
  | _ => s

/-- A READ_CHANNEL outcome byte shifted out whole: the fresh mark is cleared unless the rewrite mark is set, which
is cleared in its place (R72). -/
def State.outcomeByteEnds (s : State) : State :=
  match s.host.response with
  | some ⟨.channel c false, fields, r⟩ =>
    let s := { s with host := { s.host with response := some ⟨.channel c true, fields, r⟩ } }
    s.modChan c fun ch => { ch with fresh := ch.fresh && ch.rewrite, rewrite := false }
  | _ => s

/-! ### The bytes shifted out -/

/-- The response as it stands at its ready marker: READ_STATUS, READ_EVENTS and READ_CHANNEL are formed there, every
other response was formed before (R72, R166, R175, R179). -/
def State.formed (r : Response) (s : State) : Response :=
  match r.kind, s.host.current with
  | .unformed, some ⟨.readStatus, _⟩ => HostCmd.readStatus.respond .plain s.statusBytes .ok
  | .unformed, some ⟨.readEvents, _⟩ => HostCmd.readEvents.respond (.events s.events.flags 0) s.events.flagBytes .ok
  | .unformed, some ⟨.readChannel c, _⟩ =>
    (HostCmd.readChannel c).respond (.channel (chanOf c.toNat) false) (channelBytes (s.chan (chanOf c.toNat))) .ok
  | _, _ => r

/-- The ready marker of a response that is ready is chosen: phase RESPONSE, and the reads are formed (R162, R166). -/
def State.showMarker (s : State) : State :=
  match s.host.phase, s.host.response with
  | .waiting, some r =>
    { s with
      host := { s.host with response := some (s.formed r), phase := .response }
      serial := { s.serial with sent := 1 } }
  | _, _ => s

/-- The byte to be shifted out next is chosen, as its first bit is presented: busy marker, ready marker, response
fields and result byte, or filler; filler too after SOFT_RESET (R149, R165, R170). -/
def State.chooseByte (s : State) : State :=
  match s.host.phase, s.host.response with
  | .waiting, none => { s with serial := { s.serial with out := some 0xC3 } }
  | .waiting, some _ => { s.showMarker with serial := { s.showMarker.serial with out := some 0x5A } }
  | .response, some r =>
    { s with serial := { s.serial with out := some (r.bytes.getD s.serial.sent 0x00), sent := s.serial.sent + 1 } }
  | _, _ => { s with serial := { s.serial with out := some 0x00 } }

/-- Byte `k` of a response has been shifted out whole: a flag byte or the outcome byte takes its effect, and the result
byte ends phase RESPONSE (R72, R162, R168, R179). The ready marker is byte 0. -/
def State.responseByteEnds (k : Nat) (s : State) : State :=
  match s.host.response with
  | none => s
  | some r =>
    let t := match r.kind with
      | .events _ _ => if 1 ≤ k ∧ k ≤ 2 then s.flagByteEnds else s
      | .channel _ _ => if k = 5 then s.outcomeByteEnds else s
      | _ => s
    if r.fields.length < k then { t with host := { t.host with phase := .trailing } } else t

/-- The byte being shifted out has been shifted whole; what came in on SDI with it is ignored (R163, R165). -/
def State.byteOutEnds (s : State) : State :=
  let t := { s with serial := { s.serial with sdi := s.serial.sdi.drop 8, out := none } }
  if s.host.phase = .response then t.responseByteEnds (s.serial.sent - 1) else t

/-- The byte on SDO: none while SDO is high-impedance and between two bytes of a response; 0x00 while the command and its
parameters come in (R163, R165). -/
def State.sdoByte (s : State) : Option Byte :=
  if !s.host.sdoDriven then none
  else match s.host.phase with
    | .command => some 0x00
    | .parameters _ => some 0x00
    | _ => s.serial.out

/-- The bits of that byte as SDO presents them (R163, R183). -/
def State.sdoBits (s : State) : Option (List Bool) := s.sdoByte.map byteBits

/-- FLAG_BYTE_SHIFTED: the next flag byte of a READ_EVENTS is shifted out whole, and with it whatever of the response
comes before it: its ready marker is chosen here at the latest (R179): log entry 14. -/
def State.shiftFlagByte (s : State) : State :=
  let t := s.showMarker
  match t.host.response with
  | some ⟨.events _ n, _, _⟩ =>
    if n < 2 then { t.flagByteEnds with serial := { t.serial with out := none, sent := n + 2 } } else s
  | _ => s

/-- OUTCOME_BYTE_SHIFTED: the same for the outcome byte of a READ_CHANNEL (R72): log entry 14. -/
def State.shiftOutcomeByte (s : State) : State :=
  let t := s.showMarker
  match t.host.response with
  | some ⟨.channel _ false, _, _⟩ => { t.outcomeByteEnds with serial := { t.serial with out := none, sent := 6 } }
  | _ => s

end Sys2Proof.Machine
end

