-- ==== Sys2Proof/Machine/HostCommands.lean ====
section
/-! DEFINITION. The meanings of the host commands, each taken whole in the open transaction (chapter 10), and of the
transaction rows. -/

namespace Sys2Proof.Machine

/-- NOP (R176). -/
def execNop (s : State) : Host.Outcome State Fault Refusal := .next (s.receive .nop)

/-- READ_STATUS (R175). -/
def execReadStatus (s : State) : Host.Outcome State Fault Refusal := .next (s.receive .readStatus)

/-- READ_EVENTS (R179). -/
def execReadEvents (s : State) : Host.Outcome State Fault Refusal := .next (s.receive .readEvents)

/-- WRITE_EVENT_MASK (R180). -/
def execWriteEventMask (mask1 mask2 : Byte) (s : State) : Host.Outcome State Fault Refusal :=
  .next (s.receive (.writeEventMask mask1 mask2))

/-- READ_SETTING (R136). -/
def execReadSetting (ident : Byte) (s : State) : Host.Outcome State Fault Refusal :=
  .next (s.receive (.readSetting ident))

/-- WRITE_SETTING (R136). -/
def execWriteSetting (ident hi lo : Byte) (s : State) : Host.Outcome State Fault Refusal :=
  .next (s.receive (.writeSetting ident hi lo))

/-- JOIN (R137). -/
def execJoin (s : State) : Host.Outcome State Fault Refusal := .next (s.receive .join)

/-- LEAVE (R141). -/
def execLeave (s : State) : Host.Outcome State Fault Refusal := .next (s.receive .leave)

/-- SOFT_RESET: acts as soon as its byte is shifted in whole, held command or not (R149, R170). -/
def execSoftReset (s : State) : Host.Outcome State Fault Refusal :=
  .next (if s.host.phase = .command then s.softReset else s)

/-- REQUEST (R55, R173). -/
def execRequest (chan mode start len : Byte) (s : State) : Host.Outcome State Fault Refusal :=
  .next (s.receive (.request chan mode start len))

/-- RELEASE (R56, R173). -/
def execRelease (chan : Byte) (s : State) : Host.Outcome State Fault Refusal := .next (s.receive (.release chan))

/-- READ_CHANNEL (R72). -/
def execReadChannel (chan : Byte) (s : State) : Host.Outcome State Fault Refusal :=
  .next (s.receive (.readChannel chan))

/-- READ_ENTRY (R22, R174). -/
def execReadEntry (index : Byte) (s : State) : Host.Outcome State Fault Refusal := .next (s.receive (.readEntry index))

/-- READ_PEER (R117, R174). -/
def execReadPeer (index : Byte) (s : State) : Host.Outcome State Fault Refusal := .next (s.receive (.readPeer index))

/-- READ_MAP (R22, R174). -/
def execReadMap (first count : Byte) (s : State) : Host.Outcome State Fault Refusal :=
  .next (s.receive (.readMap first count))

/-- SHED_NOW (R154, R155). -/
def execShedNow (s : State) : Host.Outcome State Fault Refusal := .next (s.receive .shedNow)

/-- A byte 0 that names no command: answered at once, held command or not, with nothing changed (R164). A byte that
names a command is not this step. -/
def execUnknownCommand (code : Byte) (s : State) : Host.Outcome State Fault Refusal :=
  .next (if s.host.phase = .command ∧ code.toNat ∉ commandCodes then s.answerWith ⟨.plain, [], .unknownCommand⟩
    else s)

/-- TRANSACTION_OPEN: a falling edge of CS# (R163). -/
def execTransactionOpen (s : State) : Host.Outcome State Fault Refusal := .next s.openTransaction

/-- TRANSACTION_CLOSE: a rising edge of CS# (R167, R168). -/
def execTransactionClose (s : State) : Host.Outcome State Fault Refusal := .next s.closeTransaction

/-- FLAG_BYTE_SHIFTED: the next flag byte of a READ_EVENTS is shifted out whole (R179). -/
def execFlagByteShifted (s : State) : Host.Outcome State Fault Refusal := .next s.shiftFlagByte

/-- OUTCOME_BYTE_SHIFTED: the outcome byte of a READ_CHANNEL is shifted out whole (R72). -/
def execOutcomeByteShifted (s : State) : Host.Outcome State Fault Refusal := .next s.shiftOutcomeByte

end Sys2Proof.Machine
end

