-- ==== Sys2Proof/Machine/Line.lean ====
section
/-! DEFINITION. The phase line as a station meets it: start edges and attempts, arbitration and the sender's
monitor, the judgment of a heard notice, completion and settlement, breaks and the stuck line (R83 to R95, R98 to
R110). -/

namespace Sys2Proof.Machine

/-! ### Starts -/

/-- No notice is being sent or decoded. -/
def LineInterface.isIdle (l : LineInterface) : Bool := l.phase == .idle || l.phase == .skipping

/-- The recessive time that makes a falling edge a start edge: 9 T (R100), or 10 T where the rest of a notice with a
malformed header is passing and the part waits for the idle gap then (R79): log entry 10. -/
def LineInterface.startGap (l : LineInterface) : Nat :=
  if l.phase = .skipping ∧ Config.malformedHeaderWaits = true then Config.idleGapQuarters else Config.startEdgeQuarters

/-- The Transmit Unit offers a notice in a state whose driver makes attempts (R83, R101). -/
def State.offers (s : State) : Bool := s.station.sends && !s.txQueue.isEmpty

/-- An attempt begins with the first item in queue order: its in-attempt mark is set, a SUMMARY is captured (R78,
R83, R101). `gap`: the gap count at that moment, which runs on until the line goes low (R100). -/
def State.beginAttempt (gap : Nat) (s : State) : State :=
  match s.txQueue with
  | [] => s
  | i :: rest =>
    { s with
      txQueue := { i with inAttempt := true } :: rest
      line := ⟨.sending (s.noticeOf i.body), gap, 0⟩ }

/-- A station with a notice on offer drives its own start cell from a start edge it sees (R101). -/
def State.joinStart (elapsed : Nat) (s : State) : State :=
  if s.offers ∧ s.line.isIdle ∧ s.line.startGap ≤ s.line.gapCount + elapsed then s.beginAttempt 0 else s

/-- ATTEMPT_START: an own start after 10 T of recessive line, the line not yet low, or a start cell joined to another
station's start edge (R100, R101). -/
def State.startAttempt (kind : StartKind) (elapsed : Nat) (s : State) : State :=
  match kind with
  | .own =>
    if s.offers ∧ s.line.isIdle ∧ Config.idleGapQuarters ≤ s.line.gapCount + elapsed then
      s.beginAttempt (s.line.gapCount + elapsed)
    else s
  | .joining => s.joinStart elapsed

/-- A falling edge outside a notice: with the recessive time of a start before it a start edge, which a station with a
notice on offer joins and every other receiving station decodes; with less it is noise, and the gap count restarts
(R99, R100, R101). Inside a notice an edge begins a cell and is no start. DEDUCED: log entries 9 and 10. -/
def State.fallingEdge (elapsed : Nat) (s : State) : State :=
  if s.station.running ∧ s.line.isIdle then
    if s.line.startGap ≤ s.line.gapCount + elapsed then
      if s.offers then s.beginAttempt 0 else { s with line := ⟨.decoding, 0, 0⟩ }
    else { s with line := { s.line with gapCount := 0, faultTimer := 0 } }
  else s

/-! ### The end of an attempt -/

/-- The item is a CLAIM whose channel has its release-pending mark (R59, R85). -/
def State.claimReleased (s : State) : TxBody → Option Chan
  | .claim c _ _ => if (s.chan c).releasePending then some c else none
  | _ => none

/-- An attempt that ends undelivered and leaves its notice with `count` attempts: a CLAIM with a release pending is
removed and its channel withdrawn, in LEAVING a CLAIM, RELEASE or SUMMARY is removed, any other notice stays at its
place (Table 5-3, R59, R85, R88). -/
def State.settleUndelivered (body : TxBody) (count : Nat) (s : State) : State :=
  match s.claimReleased body with
  | some c => State.askWithdrawal c { s with txQueue := dropAttempt s.txQueue }
  | none =>
    if s.station = .leaving ∧ body.endsAtLeave then { s with txQueue := dropAttempt s.txQueue }
    else { s with txQueue := keepAttempt count s.txQueue }

/-- A notice placed again, as a new one, after a loss or an abandonment: a CLAIM or RELEASE whose channel is still
in the matching state in JOINED or DESYNC, and a LEAVE (R63, R87, R94). -/
def State.placeAgain (body : TxBody) (s : State) : State :=
  match body with
  | .claim c _ _ =>
    if (s.chan c).state = .claiming ∧ s.station.online then { s with txQueue := placeTail body s.txQueue } else s
  | .release c =>
    if (s.chan c).state = .releasing ∧ s.station.online then { s with txQueue := placeTail body s.txQueue } else s
  | .leave => { s with txQueue := placeLeave s.txQueue }
  | _ => s

/-- An attempt that ends broken (Table 5-3, R84, R85, R87): a SYNC is removed, any other notice stays for another
attempt or is abandoned after its fourth. -/
def State.settleBroken (s : State) : State :=
  match attemptItem s.txQueue with
  | none => s
  | some i =>
    if (s.claimReleased i.body).isSome ∨ (s.station = .leaving ∧ i.body.endsAtLeave) ∨
        (!i.body.isSync ∧ i.count + 1 < Config.maxAttempts) then
      s.settleUndelivered i.body (i.count + 1)
    else
      let s := { s with txQueue := dropAttempt s.txQueue }
      if i.body.isSync then s.holdWithoutSync else s.placeAgain i.body

/-! ### The sender's monitor -/

/-- The value this station drives in a cell of its attempt (R98, R102). -/
def State.drivenCell (s : State) (cell : Nat) : Option Bool :=
  match s.line.phase with
  | .sending n => n.sentCell s.settings.stationNumber cell
  | _ => none

/-- A 1 sent and dominant read in a kind or sender cell: the attempt is lost, the station receives the winning notice
(R102, R103). At the sample the line has been dominant for T/2. -/
def State.loseArbitration (cell : Nat) (s : State) : State :=
  if 2 ≤ cell ∧ cell ≤ 9 ∧ s.drivenCell cell = some true then
    let s := { s with line := ⟨.decoding, 0, Config.sampleQuarters⟩ }
    match attemptItem s.txQueue with
    | some i => s.settleUndelivered i.body i.count
    | none => s
  else s

/-- The line at a driver fault, recessive at the sample: where it has been low in the attempt, the station goes on as a
receiver of what the line carries, recessive since the line's return; where it never went low, which only the start cell
of an own start can find, no notice has begun and the gap count of the unbroken recessive period runs on (R98, R100,
R105): log entry 8. -/
def LineInterface.afterDriverFault (returned : Option Nat) (l : LineInterface) : LineInterface :=
  match returned with
  | some q => ⟨.decoding, q, 0⟩
  | none => ⟨.idle, l.gapCount + Config.sampleQuarters, 0⟩

/-- A 0 driven and recessive read: the driver is released and the attempt ends broken (R102, R105). -/
def State.driverFails (found : Mismatch) (s : State) : State :=
  if s.drivenCell found.cell = some false ∧ (found.returned.isSome ∨ found.cell = 1) then
    State.settleBroken { s with line := s.line.afterDriverFault found.returned }
  else s

/-- A 1 sent and dominant read in a payload or CRC cell: station number conflict (R102, R104). -/
def State.conflict (cell : Nat) (s : State) : State :=
  if 10 ≤ cell ∧ s.drivenCell cell = some true then s.haltReport .stationConflict else s

/-! ### Receiving -/

/-- A place of the receive queue is free (R92, R93). -/
def State.receiveRoom (s : State) : Bool := s.rxQueue.length < Config.receivePlaces

/-- How long the line has been recessive: what counts toward the gap (R100). -/
def recessiveFor : LineRun → Nat
  | .dominant _ => 0
  | .recessive q => q

/-- How long the line has been dominant: what counts toward a line fault (R110). -/
def dominantFor : LineRun → Nat
  | .dominant q => q
  | .recessive _ => 0

/-- The period the line is in has passed 2 T (R109). -/
def passesBreak (run : LineRun) : Bool := decide (Config.breakQuarters ≤ recessiveFor run + dominantFor run)

/-- The line as a judgment leaves it, the period it is in counted (R100, R109, R110). -/
def State.judge (run : LineRun) (phase : LinePhase) (s : State) : State :=
  { s with line := ⟨phase, recessiveFor run, dominantFor run⟩ }

/-- A heard notice judged by the start of its echo cell (R92, Table 5-5): a break and a malformed header end the
decoding; a good notice with the own number halts the station; a good one with room reserves a place and is echoed. -/
def State.judgeHeard (heard : Heard) (s : State) : State :=
  if s.station.running ∧ s.line.phase = .decoding then
    match decodeNotice heard.cells with
    | .broken => if passesBreak heard.run then s.judge heard.run .idle else s
    | .malformedHeader => s.judge heard.run .skipping
    | .crcFailure => s.judge heard.run (.judged .crcFailure)
    | .malformedFields => s.judge heard.run (.judged .malformed)
    | .good n notice =>
      if n = s.settings.stationNumber then s.haltReport .stationConflict
      else if s.receiveRoom then s.judge heard.run (.judged (.accepted ⟨false, n, notice⟩))
      else s.judge heard.run (.judged (.overrun ⟨false, n, notice⟩))
  else s

/-- The echo cell of an own attempt begins: a receive place is reserved if one is free (R93). -/
def State.ownEchoBegins (s : State) : State :=
  match s.line.phase with
  | .sending n => { s with line := ⟨.ownEcho n s.receiveRoom, 0, 0⟩ }
  | _ => s

/-- LINE is pulled by this station for an attempt or an echo (R99, R107). -/
def State.driverActive (s : State) : Bool :=
  match s.line.phase with
  | .sending _ => true
  | .ownEcho _ _ => true
  | .judged (.accepted _) => true
  | _ => false

/-! ### Completion -/

/-- A notice added to the receive queue (R91). -/
def State.enqueue (item : RxItem) (s : State) : State := { s with rxQueue := s.rxQueue ++ [item] }

/-- A notice lost for want of a place: RX_OVERRUN and its consequence by station state (R94). -/
def State.overrun (s : State) : State := (s.raise .rxOverrun).tableDoubt

/-- What a completed good notice does at its completion outside the queues: a SYNC realigns, a SHED of another
station sheds (R45, R108, R154, R155). -/
def State.actsAtCompletion (own : Bool) (n : Notice) (s : State) : State :=
  match n with
  | .sync f => s.realign f
  | .shed => if own then s else s.shedCause false false
  | _ => s

/-- The two effects of a completion in the order taken (R139): DESIGN CHOICE, safe (log entry 15). -/
def inOrder (first : TakenFirst) (cause frame : State → State) (s : State) : State :=
  match first with
  | .cause => frame (cause s)
  | .frameStart => cause (frame s)

/-- A complete own notice is delivered: echoed, a SYNC, no peer known, or the fourth attempt (R85, R86). -/
def State.delivers (s : State) (echoed : Bool) (i : TxItem) : Bool :=
  echoed || i.body.isSync || s.peers.isEmpty || Config.maxAttempts ≤ i.count + 1

/-- WITNESS_FAIL: the fourth attempt completed unechoed with a peer known (R86). -/
def State.witnessFails (s : State) (echoed : Bool) (i : TxItem) : Bool :=
  !echoed && !i.body.isSync && !s.peers.isEmpty && Config.maxAttempts ≤ i.count + 1

/-- The own attempt settled at its completion (R85, R86, R93, R94). -/
def State.completeOwn (n : Notice) (reserved echoed : Bool) (first : TakenFirst) (s : State) : State :=
  match attemptItem s.txQueue with
  | none => s
  | some i =>
    if s.delivers echoed i then
      let s := s.raiseIf (s.witnessFails echoed i) .witnessFail
      let s := { s with txQueue := dropAttempt s.txQueue }
      inOrder first
        (fun s => if reserved then s.enqueue ⟨true, s.settings.stationNumber, n⟩ else s.overrun.placeAgain i.body)
        (State.actsAtCompletion true n) s
    else s.settleUndelivered i.body (i.count + 1)

/-- A heard notice completed, by its judgment (R92, R94, R95). -/
def State.completeHeard (v : Verdict) (first : TakenFirst) (s : State) : State :=
  match v with
  | .accepted item => inOrder first (State.enqueue item) (State.actsAtCompletion false item.notice) s
  | .overrun item => inOrder first State.overrun (State.actsAtCompletion false item.notice) s
  | .crcFailure => s.tableDoubt
  | .malformed => s

/-- The judgment makes this station drive the echo (R107). -/
def Verdict.echoes : Verdict → Bool
  | .accepted _ => true
  | _ => false

/-- The dominant period of the echo cell reached the sample at T/2: the notice was echoed (R108). -/
def echoedBy (dominant : Nat) : Bool := decide (Config.sampleQuarters ≤ dominant)

/-- The echo cell has passed, at T after its edge or at the line's return to recessive if that is later: the line is
idle again, and the gap counts from the end of the cell's dominant period (R108). -/
def LineInterface.afterEcho (dominant : Nat) : LineInterface := ⟨.idle, Config.cellQuarters - dominant, 0⟩

/-- A notice completes; with a dominant period of more than 2 T it is broken instead (R108, R109). The sender itself
holds the cell dominant for 1/4 T, and a station that echoes for 3/4 T (R107). -/
def State.complete (dominant : Nat) (first : TakenFirst) (s : State) : State :=
  if dominant ≤ Config.breakQuarters then
    match s.line.phase with
    | .ownEcho n reserved =>
      State.completeOwn n reserved (echoedBy dominant) first
        { s with line := LineInterface.afterEcho (max 1 dominant) }
    | .judged v =>
      State.completeHeard v first
        { s with line := LineInterface.afterEcho (max (if v.echoes then 3 else 1) dominant) }
    | _ => s
  else s

/-! ### Breaks and the stuck line -/

/-- The line after a break: the recessive period already running counts toward the gap, a dominant one toward the
line fault (R109, R110). -/
def LineInterface.afterBreak : BreakKind → LineInterface
  | .recessive => ⟨.idle, Config.breakQuarters, 0⟩
  | .dominant => ⟨.idle, 0, Config.breakQuarters⟩

/-- A break can be found in the phase: dominant up to the passing of the echo cell, recessive before the echo cell's
edge, which the sender of a judged notice may never make (R109). -/
def LinePhase.breaks (kind : BreakKind) : LinePhase → Bool
  | .idle => false
  | .skipping => false
  | .decoding => true
  | .sending _ => true
  | .judged _ => true
  | .ownEcho _ _ => kind == .dominant

/-- The phase is an own attempt. -/
def LinePhase.isOwn : LinePhase → Bool
  | .sending _ => true
  | .ownEcho _ _ => true
  | _ => false

/-- A notice broken: a receiver discards it, a sender's attempt ends broken (R109). -/
def State.breakNotice (kind : BreakKind) (s : State) : State :=
  if s.line.phase.breaks kind then
    let own := s.line.phase.isOwn
    let s := { s with line := LineInterface.afterBreak kind }
    if own then s.settleBroken else s
  else s

/-- The line-fault timer in a dominant period: a return to recessive since the last step of the line has cleared it, and
it counts from the falling edge after that (R110). -/
def LineInterface.timerAt (held : Held) (l : LineInterface) : Nat :=
  match held with
  | .on elapsed => l.faultTimer + elapsed
  | .anew quarters => quarters

/-- The line held dominant: at 128 T of one period the station declares LINE_FAULT (R110). Short of that the timer runs
on, and the gap count stands at 0 until the line returns recessive (R100): DESIGN CHOICE, safe (log entry 19). -/
def State.heldDominant (held : Held) (s : State) : State :=
  if s.station.running then
    if Config.faultQuarters ≤ s.line.timerAt held then s.haltReport .lineFault
    else { s with line := { s.line with gapCount := 0, faultTimer := s.line.timerAt held } }
  else s

end Sys2Proof.Machine
end

