-- ==== Sys2Proof/Machine/LineRows.lean ====
section
/-! DEFINITION. The meanings of the rows of the phase line. -/

namespace Sys2Proof.Machine

/-- ATTEMPT_START (R101). -/
def execAttemptStart (kind : StartKind) (elapsed : Nat) (s : State) : Host.Outcome State Fault Refusal :=
  .next (s.startAttempt kind elapsed)

/-- LOST_ARBITRATION (R103). -/
def execLostArbitration (cell : Nat) (s : State) : Host.Outcome State Fault Refusal := .next (s.loseArbitration cell)

/-- DRIVER_FAULT (R105). -/
def execDriverFault (found : Mismatch) (s : State) : Host.Outcome State Fault Refusal := .next (s.driverFails found)

/-- STATION_CONFLICT (R104). -/
def execStationConflict (cell : Nat) (s : State) : Host.Outcome State Fault Refusal := .next (s.conflict cell)

/-- HEARD_NOTICE_JUDGED (R92). -/
def execHeardNoticeJudged (heard : Heard) (s : State) : Host.Outcome State Fault Refusal := .next (s.judgeHeard heard)

/-- NOTICE_COMPLETE (R108). -/
def execNoticeComplete (dominant : Nat) (first : TakenFirst) (s : State) : Host.Outcome State Fault Refusal :=
  .next (s.complete dominant first)

/-- NOTICE_BROKEN (R109). -/
def execNoticeBroken (kind : BreakKind) (s : State) : Host.Outcome State Fault Refusal := .next (s.breakNotice kind)

/-- LINE_FAULT (R110). -/
def execLineFault (held : Held) (s : State) : Host.Outcome State Fault Refusal := .next (s.heldDominant held)

/-- START_EDGE (R100). -/
def execStartEdge (elapsed : Nat) (s : State) : Host.Outcome State Fault Refusal := .next (s.fallingEdge elapsed)

/-- OWN_ECHO_CELL (R93). -/
def execOwnEchoCell (s : State) : Host.Outcome State Fault Refusal := .next s.ownEchoBegins

end Sys2Proof.Machine
end

