-- ==== Sys2Proof/Machine/Resets.lean ====
section
/-! DEFINITION. The meanings of the reset rows (R148, R184). -/

namespace Sys2Proof.Machine

/-- POWER_ON_RESET: VDD below 2.7 V (R148, R184). -/
def execPowerOnReset (s : State) : Host.Outcome State Fault Refusal :=
  .next { s.holdReset with resets := { s.resets with power := true } }

/-- PIN_RESET: RST# low (R148). -/
def execPinReset (s : State) : Host.Outcome State Fault Refusal :=
  .next { s.holdReset with resets := { s.resets with pin := true } }

/-- PIN_RESET_END: RST# returns high (R148, R162). -/
def execPinResetEnd (s : State) : Host.Outcome State Fault Refusal :=
  .next (if s.resets.pin then State.leaveReset { s with resets := { s.resets with pin := false } } else s)

/-- POWER_ON_RESET_END: VDD has stayed at or above 2.8 V for 2 ms (R148, R184). -/
def execPowerOnResetEnd (s : State) : Host.Outcome State Fault Refusal :=
  .next (if s.resets.power then State.leaveReset { s with resets := { s.resets with power := false } } else s)

end Sys2Proof.Machine
end

