-- ==== Sys2Proof/Machine/Jobs.lean ====
section
/-! DEFINITION. The jobs of the Table Unit (R14 to R20): the arbiter's grants, the work and the end of EVALUATE,
SWEEP, HOST and PLACEMENT. A job takes what it works on at its grant; its changes to the tables are made, and its
results handed on, at its end (R7, R16), but for the silence counts and losses of a sweep (log entry 5). -/

namespace Sys2Proof.Machine

/-! ### The arbiter -/

/-- A job granted: the unit runs it, and the counts READ_STATUS reports are those of this moment (R15, R175). -/
def State.startJob (j : Job) (s : State) : State :=
  { s with unit := { s.unit with job := some j, lastCounts := s.tableCounts } }

/-- A HOST job is wanted (R14). -/
def State.hostWanted (s : State) : Bool := s.host.waitingCommand.isSome

/-- The lowest-numbered PLACING channel (R25). -/
def State.placingChannel (s : State) : Option Chan :=
  (List.finRange 8).find? fun c => (s.chan c).state == .placing

/-- The Table Unit is free (R15). -/
def State.unitFree (s : State) : Bool := s.unit.job.isNone

/-- The grant of an EVALUATE job: the head of the receive queue is taken (R7, R15). -/
def State.grantEvaluate (s : State) : State :=
  match s.rxQueue with
  | [] => s
  | item :: rest => if s.unitFree then { s.startJob (.evaluate item) with rxQueue := rest } else s

/-- A silence count raised by the frame starts a sweep takes, stopping at 64 (R19). -/
def Peer.addSilence (n : Nat) (p : Peer) : Peer := { p with silence := min Config.silenceCap (p.silence + n) }

/-- The grant of a SWEEP job: it takes the whole sweep-pending count and applies it to every record (R15, R19). -/
def State.grantSweep (s : State) : State :=
  if s.unitFree ∧ s.rxQueue = [] ∧ 0 < s.timer.sweepPending then
    { s.startJob (.sweep false) with
      timer := { s.timer with sweepPending := 0 }
      peers := s.peers.map (Peer.addSilence s.timer.sweepPending) }
  else s

/-- The grant of a HOST job (R15). -/
def State.grantHost (s : State) : State :=
  if s.unitFree ∧ s.rxQueue = [] ∧ s.timer.sweepPending = 0 then
    match s.host.waitingCommand with
    | some t => s.startJob (.host t)
    | none => s
  else s

/-- The grant of a PLACEMENT job: nothing else wanted, the station JOINED, the lowest PLACING channel (R15, R25). -/
def State.grantPlacement (s : State) : State :=
  if s.unitFree ∧ s.rxQueue = [] ∧ s.timer.sweepPending = 0 ∧ !s.hostWanted ∧ s.station = .joined then
    match s.placingChannel with
    | some c => s.startJob (.placement c)
    | none => s
  else s

/-! ### EVALUATE: CLAIM -/

/-- A TABLE_FULL report at the end of its job (R21). -/
def State.tableFull (s : State) : State := (s.raise .tableFull).tableDoubt

/-- A heard CLAIM: the old entry of its key is removed, and the claim is tested against the committed sums (R8, R9). -/
def State.heardClaim (owner : Nat) (c : Chan) (w : Window) (weight : Nat) (s : State) : State :=
  let b := s.book.dropKey owner c
  if b.fits false s.settings.budget weight w then
    match b.add ⟨owner, c, w, weight, .held⟩ with
    | some b' => { s with book := b' }
    | none => State.tableFull { s with book := b }
  else { s with book := b }

/-- A channel's RELEASE placed, in JOINED and DESYNC only (Table 5-2). -/
def State.sendRelease (c : Chan) (s : State) : State :=
  if s.station.online then { s with txQueue := placeTail (.release c) s.txQueue } else s

/-- A grant (R61, R64): HELD with GRANTED, or with a release pending RELEASING and its RELEASE placed. -/
def State.grantChannel (c : Chan) (s : State) : State :=
  let s := { s with grants := s.grants ++ [c] }
  if (s.chan c).releasePending then
    State.sendRelease c
      (({ s with book := s.book.restateKey s.settings.stationNumber c .releasing }).modChan c fun ch =>
        { ch with state := .releasing, releasePending := false })
  else (s.modChan c fun ch => { ch with state := .held }).writeOutcome c .granted (s.chan c).window

/-- A void result for an own CLAIM (R32, R59). -/
def State.voidChannel (c : Chan) (s : State) : State :=
  if (s.chan c).releasePending then s.endChannel c .withdrawn
  else if (s.chan c).attempts < Config.maxPlacements then
    s.modChan c fun ch => { ch with state := .placing, window := none, attempts := ch.attempts + 1 }
  else s.endChannel c .refusedContested

/-- An own CLAIM at its evaluation: the CLAIMING entry is set aside and the claim tested; it returns HELD to the
same position, or its position is freed (R8, R9). A channel no longer CLAIMING discards it: DEDUCED,
safe (log entry 16). -/
def State.ownClaim (c : Chan) (w : Window) (weight : Nat) (s : State) : State :=
  if (s.chan c).state = .claiming then
    if s.book.fits false s.settings.budget weight w then
      State.grantChannel c { s with book := s.book.restateKey s.settings.stationNumber c .held }
    else State.voidChannel c { s with book := s.book.dropKey s.settings.stationNumber c }
  else s

/-! ### EVALUATE: RELEASE -/

/-- The completion of an own RELEASE: IDLE with RELEASED, or after a yield PLACING with YIELDED (R10, R62). An own
RELEASE whose channel has no RELEASING entry is discarded. -/
def State.ownRelease (c : Chan) (s : State) : State :=
  if (s.chan c).state = .releasing then
    let w := (s.chan c).window
    let again := (s.chan c).reRequest
    let s := { s with
      book := s.book.dropKey s.settings.stationNumber c
      grants := s.grants.filter (· != c) }
    if again then
      (s.modChan c fun ch => { ch.toIdle with state := .placing, attempts := 0 }).writeOutcome c .yielded w
    else (s.modChan c Channel.toIdle).writeOutcome c .released w
  else s

/-! ### EVALUATE: LEAVE -/

/-- A peer removed with its entries and its mark (R11, R20, R116). -/
def State.removeStation (n : Nat) (s : State) : State :=
  { s with book := s.book.dropOwned n, peers := removePeer n s.peers }

/-- A heard LEAVE (R11). -/
def State.heardLeave (n : Nat) (s : State) : State :=
  if (findPeer n s.peers).isSome then (s.removeStation n).raise .peerGone else s

/-! ### EVALUATE: SUMMARY -/

/-- The budget report of a summary: recorded, and the first difference marked (R121). -/
def Peer.report (own budget : Nat) (p : Peer) : Peer :=
  { p with budget := some budget, mismatch := p.mismatch || budget != own }

/-- The report is the first differing one of its record (R121). -/
def firstMismatch (n own budget : Nat) (ps : List Peer) : Bool :=
  (findPeer n ps).any fun p => budget != own && !p.mismatch

/-- The channel that yields: the newest grant that is HELD and covers an unresolved slice (R69). -/
def State.yieldChannel (slices : List (Fin 64)) (s : State) : Option Chan :=
  s.grants.reverse.find? fun c =>
    (s.chan c).state == .held && slices.any fun i => (s.chan c).window.any fun w => w.covers i.val

/-- A yield (R69). -/
def State.yield (c : Chan) (s : State) : State :=
  let s := { s with book := s.book.restateKey s.settings.stationNumber c .releasing }
  State.sendRelease c
    (s.modChan c fun ch => { ch with state := .releasing, live := false, reRequest := true }).trimDrive

/-- The overcommit check that ends an adoption, with its yield in JOINED and DESYNC (R69, R123). -/
def State.overcommitCheck (added : List Window) (s : State) : State :=
  if (overcommitted s.settings.budget added s.book).isEmpty then s
  else
    let s := s.raise .overcommit
    if s.station.online then
      match s.yieldChannel (unresolved s.settings.stationNumber s.settings.budget added s.book) with
      | some c => s.yield c
      | none => s
    else s

/-- A heard SUMMARY adopted in its five steps (R119 to R123), its TABLE_FULL reported last (R21). -/
def State.adopt (n budget : Nat) (listed : List Listed) (s : State) : State :=
  let a := addListed n listed (s.book.dropOwned n)
  let first := firstMismatch n s.settings.budget budget s.peers
  let clears := decide (s.station = .desync) && a.complete
  let s := { s with
    book := a.book
    peers := updatePeer n (fun p =>
      { p.report s.settings.budget budget with awaiting := p.awaiting && !clears }) s.peers }
  let s := (s.raiseIf first .budgetMismatch).overcommitCheck a.added
  if a.complete then s else s.tableFull

/-! ### EVALUATE: the job -/

/-- The sender's peer record settled, for a heard notice (R7, R114). -/
def State.settlePeer (n : Nat) (notice : Notice) (s : State) : State :=
  if (findPeer n s.peers).isSome then
    { s with peers := updatePeer n (fun p => { p with silence := 0 }) s.peers }
  else if notice = .leave then s
  else State.raise .peerNew { s with peers := insertPeer (newPeer n (decide (s.station = .desync))) s.peers }

/-- The effect of a heard notice's kind (R8 to R13). -/
def State.heardEffect (n : Nat) (notice : Notice) (s : State) : State :=
  match notice with
  | .sync _ => s
  | .shed => s
  | .release c => { s with book := s.book.dropKey n c }
  | .claim c w weight => s.heardClaim n c w weight
  | .leave => s.heardLeave n
  | .summary budget listed => s.adopt n budget listed

/-- The effect of an own notice's kind, LEAVE apart (R9, R10, R12, R13). -/
def State.ownEffect (notice : Notice) (s : State) : State :=
  match notice with
  | .release c => s.ownRelease c
  | .claim c w weight => s.ownClaim c w weight
  | _ => s

/-- The completion of a leave at the end of the EVALUATE job of the own LEAVE; a REQUEST or RELEASE that waits is
answered by the Host Port (R11, R143, R173). -/
def State.completeLeave (s : State) : State := State.portAtEntry false s.leaveDone

/-! ### SWEEP -/

/-- The next peer a sweep loses: of those at the limit, the first in ascending station number (R19). -/
def State.nextLost (s : State) : Option Nat :=
  (s.peers.find? fun p => s.settings.silenceLimit ≤ p.silence).map (·.number)

/-- A peer declared lost in a running sweep, in its turn (R19, R20). -/
def State.losePeer (n : Nat) (s : State) : State :=
  match s.unit.job with
  | some (.sweep _) =>
    if s.nextLost = some n then
      { s.removeStation n with unit := { s.unit with job := some (.sweep true) } }
    else s
  | _ => s

/-- Every peer at the limit lost, in ascending station number (R19). -/
def State.losePeers (s : State) : State := (s.peers.map (·.number)).foldl (fun s n => s.losePeer n) s

/-! ### HOST -/

/-- An accepted REQUEST (R55). -/
def State.acceptRequest (c : Chan) (mode : ReqMode) (start len : Nat) (s : State) : State :=
  s.modChan c fun ch =>
    { ch with
      state := .placing, mode := mode, reqStart := start, reqLen := len, attempts := 0
      releasePending := false, reRequest := false
      outcome := .none, outcomeWindow := none, fresh := false }

/-- The CLAIM of a channel is in the transmit queue and in no attempt (R58). -/
def claimWaits (c : Chan) (l : List TxItem) : Bool := l.any fun i => i.body.isClaimOf c && !i.inAttempt

/-- An accepted RELEASE, by the channel's state (R57 to R60). -/
def State.acceptRelease (c : Chan) (s : State) : State :=
  match (s.chan c).state with
  | .placing => s.endChannel c .withdrawn
  | .claiming =>
    if claimWaits c s.txQueue then
      State.withdraw c { s with txQueue := withdrawItems (TxBody.isClaimOf c) s.txQueue }
    else s.modChan c fun ch => { ch with releasePending := true }
  | .held =>
    let s := { s with book := s.book.restateKey s.settings.stationNumber c .releasing }
    State.sendRelease c (s.modChan c fun ch => { ch with state := .releasing, live := false }).trimDrive
  | _ => s

/-- The fields of a READ_MAP response: the slices in ascending order (R22). -/
def Book.mapBytes (first count : Nat) (b : Book) : List Byte :=
  (slices.filter fun i => first ≤ i.val && i.val < first + count).flatMap fun i => sumsBytes (b.map.get i)

/-- The position a READ_ENTRY index names. -/
def Book.entryAt (i : Nat) (b : Book) : Option Entry := if h : i < 96 then b.entry ⟨i, h⟩ else none

/-- The entries a peer owns, counted from the table (R113, R117). -/
def State.peerReport (i : Nat) (s : State) : List Byte :=
  peerBytes (match s.peers[i]? with
    | some p => s.book.count fun e => e.owner == p.number
    | none => 0) s.peers[i]?

/-- The changes a HOST job makes (R55, R56, R60). -/
def State.hostChange (t : Taken) (s : State) : State :=
  match t.cmd with
  | .request c m st l =>
    if s.requestCheck c m st l = .ok then s.acceptRequest (chanOf c.toNat) (modeOf m) st.toNat l.toNat else s
  | .release c =>
    if s.releaseCheck c t.pendingSet = .ok ∧ !t.pendingSet then s.acceptRelease (chanOf c.toNat) else s
  | _ => s

/-- The response a HOST job forms (R22, R55, R56, R117). -/
def State.hostResponse (t : Taken) (s : State) : Response :=
  match t.cmd with
  | .request c m st l => t.cmd.respond .plain [] (s.requestCheck c m st l)
  | .release c => t.cmd.respond .plain [] (s.releaseCheck c t.pendingSet)
  | .readEntry i => t.cmd.respond .plain (entryBytes (s.book.entryAt i.toNat)) .ok
  | .readPeer i => t.cmd.respond .plain (s.peerReport i.toNat) .ok
  | .readMap f c => t.cmd.respond .plain (s.book.mapBytes f.toNat c.toNat) .ok
  | _ => t.cmd.respond .plain [] .ok

/-! ### PLACEMENT -/

/-- The candidate starts of a FROM request: from its start up to 64 − length, then from 0 up to its start − 1, those
above 64 − length skipped (R27). -/
def fromStarts (start len : Nat) : List Nat :=
  ((List.range 64).drop start ++ (List.range 64).take start).filter fun s => s + len ≤ 64

/-- The candidate windows of a request in order (R26, R27). -/
def Channel.candidates (ch : Channel) : List Window :=
  match ch.mode with
  | .atMode => [⟨ch.reqStart, ch.reqLen⟩]
  | .fromMode => (fromStarts ch.reqStart ch.reqLen).map fun s => ⟨s, ch.reqLen⟩

/-- The first candidate that fits, against committed plus tentative sums (R28). -/
def State.placementWindow (c : Chan) (s : State) : Option Window :=
  (s.chan c).candidates.find? fun w => s.book.fits true s.settings.budget (s.settings.weight.get c) w

/-- The attempt count as the job leaves it: 0 becomes 1 (R25), in LEAVING too: DEDUCED, unsafe (log entry 11). -/
def Channel.numberPlacement (ch : Channel) : Channel := { ch with attempts := max 1 ch.attempts }

/-- The result of a placement handed on (R29 to R31, R57, Table 2-2). -/
def State.placementResult (c : Chan) (s : State) : State :=
  match s.placementWindow c with
  | none => s.endChannel c .refusedNoRoom
  | some w =>
    match s.book.add ⟨s.settings.stationNumber, c, w, s.settings.weight.get c, .claiming⟩ with
    | none => s.endChannel c .refusedNoEntry
    | some b =>
      if (s.chan c).releasePending then s.endChannel c .withdrawn
      else
        ({ s with book := b, txQueue := placeTail (.claim c w (s.settings.weight.get c)) s.txQueue }).modChan c
          fun ch => { ch with state := .claiming, window := some w }

/-! ### The end of a job -/

/-- The changes a job makes and the results it hands on at its end, before what waits for the unit (R7, R16): the effect
of a notice; the losses a sweep has still to make, with PEER_GONE once (R19, R20); the change of a host command; the
result of a placement, applied in JOINED and DESYNC only (R29 to R31, R34, R35). The own LEAVE is apart: it completes
the leave (R11). -/
def State.jobChanges (j : Job) (s : State) : State :=
  match j with
  | .evaluate item =>
    if item.own then s.ownEffect item.notice
    else (s.settlePeer item.sender item.notice).heardEffect item.sender item.notice
  | .sweep _ =>
    let s := s.losePeers
    s.raiseIf (s.unit.job == some (.sweep true)) .peerGone
  | .host t => s.hostChange t
  | .placement c =>
    let s := s.modChan c Channel.numberPlacement
    if s.station.online then s.placementResult c else s

/-- The changes of a job, and then what waited for the unit (R15 to R17). -/
def State.endJob (j : Job) (s : State) : State := (s.jobChanges j).freeUnit

/-- The end of an EVALUATE job (R7 to R13), with the return to JOINED if the resync set is empty (R130). -/
def State.endEvaluate (item : RxItem) (s : State) : State :=
  if item.own ∧ item.notice = .leave then s.completeLeave else (s.endJob (.evaluate item)).returnToJoined

/-- The end of a SWEEP job, with the return to JOINED (R19, R20, R130). -/
def State.endSweep (lost : Bool) (s : State) : State := (s.endJob (.sweep lost)).returnToJoined

/-- The end of a HOST job, with its response, which is shown to the open transaction or discarded with the held command
(R168, R169). -/
def State.endHost (t : Taken) (s : State) : State :=
  let r := s.hostResponse t
  let s := s.endJob (.host t)
  if s.host.held.isSome then s.releaseHeld else s.answerWith r

/-- The end of a PLACEMENT job (R29 to R31, R35). -/
def State.endPlacement (c : Chan) (s : State) : State := s.endJob (.placement c)

end Sys2Proof.Machine
end

