-- ==== Sys2Proof/Machine/TableRows.lean ====
section
/-! DEFINITION. The meanings of the Table Unit's rows: the four jobs by their points, and the steps the unit carries
out beside them. A job named at its end when it does not run, or granted when the arbiter would not grant it, does
not occur (R14, R15, log entry 2). -/

namespace Sys2Proof.Machine

/-- A job at one of its points: granted, ended, or both with nothing in between (R14 to R16): DESIGN CHOICE, unsafe
(log entry 5). -/
def atPoint (p : JobPoint) (grant finish : State → State) (s : State) : State :=
  match p with
  | .grant => grant s
  | .finish => finish s
  | .whole => if s.unitFree then finish (grant s) else s

/-- The end of the HOST job that runs. -/
def State.finishHost (s : State) : State :=
  match s.unit.job with
  | some (.host t) => s.endHost t
  | _ => s

/-- The end of the EVALUATE job that runs. -/
def State.finishEvaluate (s : State) : State :=
  match s.unit.job with
  | some (.evaluate item) => s.endEvaluate item
  | _ => s

/-- The end of the SWEEP job that runs. -/
def State.finishSweep (s : State) : State :=
  match s.unit.job with
  | some (.sweep lost) => s.endSweep lost
  | _ => s

/-- The end of the PLACEMENT job that runs. -/
def State.finishPlacement (s : State) : State :=
  match s.unit.job with
  | some (.placement c) => s.endPlacement c
  | _ => s

/-- HOST_JOB (R14, R55, R56, R22, R117). -/
def execHostJob (p : JobPoint) (s : State) : Host.Outcome State Fault Refusal :=
  .next (atPoint p State.grantHost State.finishHost s)

/-- EVALUATE (R7 to R13). -/
def execEvaluate (p : JobPoint) (s : State) : Host.Outcome State Fault Refusal :=
  .next (atPoint p State.grantEvaluate State.finishEvaluate s)

/-- SWEEP (R19). -/
def execSweep (p : JobPoint) (s : State) : Host.Outcome State Fault Refusal :=
  .next (atPoint p State.grantSweep State.finishSweep s)

/-- PEER_LOSS: a peer at the silence limit lost within the running SWEEP (R20). -/
def execPeerLoss (station : Nat) (s : State) : Host.Outcome State Fault Refusal := .next (s.losePeer station)

/-- PLACEMENT (R25 to R31). -/
def execPlacement (p : JobPoint) (s : State) : Host.Outcome State Fault Refusal :=
  .next (atPoint p State.grantPlacement State.finishPlacement s)

/-- WITHDRAWAL: a withdrawal that waits is carried out when the Table Unit is free (R17). The end of every job
carries out those that wait, by the same operation. -/
def execWithdrawal (c : Chan) (s : State) : Host.Outcome State Fault Refusal :=
  .next (if s.unitFree then s.waitingWithdrawal c else s)

/-- LEAVE_DEFERRED_CHANNEL_EFFECTS: the rest of a leave's effect on the channels, at the end of the job that ran
(R73). The end of every job carries it out, by the same operation. -/
def execLeaveDeferredChannelEffects (s : State) : Host.Outcome State Fault Refusal :=
  .next (if s.unitFree then s.waitingLeave else s)

/-- RESYNC_REFILL: a refill that waits is made when the Table Unit is free (R126). The end of every job carries it
out, by the same operation. -/
def execResyncRefill (s : State) : Host.Outcome State Fault Refusal :=
  .next (if s.unitFree then s.waitingRefill else s)

end Sys2Proof.Machine
end

