-- ==== Sys2Proof/Machine/Frames.lean ====
section
/-! DEFINITION. The Frame Timer's own events with their sample points: slice boundaries, frame expiry, hold ticks,
and the free-running sampler (R40 to R43, R150, R151). -/

namespace Sys2Proof.Machine

/-- The end of a slice from 0 to 62: the counter rises, the outputs are evaluated, a sample is taken (R40). -/
def State.endSlice (sns : Nat) (s : State) : State :=
  if s.timer.running ∧ !s.timer.hold ∧ s.timer.slice < 63 then
    State.sample sns (State.redrive { s with timer := { s.timer with slice := s.timer.slice + 1 } })
  else s

/-- The end of slice 63 in JOINED and DESYNC: the hold, with a SYNC queued (R42). -/
def State.beginHold (s : State) : State :=
  State.offerSync { s with timer := { s.timer with hold := true } }

/-- The end of slice 63: the sample, then the hold in JOINED and DESYNC or the next frame in LISTENING and LEAVING
(R40, R41, R42). -/
def State.expireFrame (sns : Nat) (s : State) : State :=
  if s.timer.running ∧ !s.timer.hold ∧ 63 ≤ s.timer.slice then
    let s := s.sample sns
    if s.station.online then s.beginHold else s.ownFrame
  else s

/-- A hold tick: a sample, and the check that a SYNC is queued (R43). -/
def State.tickHold (sns : Nat) (s : State) : State :=
  if s.timer.running ∧ s.timer.hold then (s.sample sns).offerSync else s

/-- A tick of the free-running sampler (R151). -/
def State.tickSampler (sns : Nat) (s : State) : State := if s.supply.samplerRunning then s.sample sns else s

end Sys2Proof.Machine
end

