-- ==== Sys2Proof/Machine/TimeRows.lean ====
section
/-! DEFINITION. The meanings of the rows of the Frame Timer, the Supply Monitor, and what a frame start carries. -/

namespace Sys2Proof.Machine

/-- SLICE_BOUNDARY (R40). -/
def execSliceBoundary (sns : Nat) (s : State) : Host.Outcome State Fault Refusal := .next (s.endSlice sns)

/-- FRAME_EXPIRY (R41, R42). -/
def execFrameExpiry (sns : Nat) (s : State) : Host.Outcome State Fault Refusal := .next (s.expireFrame sns)

/-- HOLD_TICK (R43). -/
def execHoldTick (sns : Nat) (s : State) : Host.Outcome State Fault Refusal := .next (s.tickHold sns)

/-- FREE_RUNNING_SAMPLER_TICK (R151). -/
def execFreeRunningSamplerTick (sns : Nat) (s : State) : Host.Outcome State Fault Refusal := .next (s.tickSampler sns)

/-- SUMMARY_TIMER_EXPIRY: the timer at SUMMARY_INTERVAL (R90). Every frame start carries it, by the same
operation. -/
def execSummaryTimerExpiry (s : State) : Host.Outcome State Fault Refusal := .next s.summaryDue

/-- LISTEN_END: the listen count at 0 (R140). Every frame start in LISTENING carries it, by the same operation. -/
def execListenEnd (s : State) : Host.Outcome State Fault Refusal := .next s.endListening

/-- SHED_HOLD_END: the hold count at 0 (R158). Every frame start in a shed carries it, by the same operation. -/
def execShedHoldEnd (s : State) : Host.Outcome State Fault Refusal := .next s.endShed

/-- SHED_RESEND: the re-send count at 0 with the supply LOW (R157). Every frame start in a shed carries it, by the
same operation. -/
def execShedResend (s : State) : Host.Outcome State Fault Refusal := .next s.resendShed

end Sys2Proof.Machine
end

