-- ==== Sys2Proof/Machine/Dispatch.lean ====
section
/-! DEFINITION. The meaning of every step: one arm per constructor of `Instr`. -/

namespace Sys2Proof.Machine

def exec (i : Instr) (s : State) : Host.Outcome State Fault Refusal :=
  match i with
  | .nop => Sys2Proof.Machine.execNop s
  | .readStatus => Sys2Proof.Machine.execReadStatus s
  | .readEvents => Sys2Proof.Machine.execReadEvents s
  | .writeEventMask mask1 mask2 => Sys2Proof.Machine.execWriteEventMask mask1 mask2 s
  | .readSetting ident => Sys2Proof.Machine.execReadSetting ident s
  | .writeSetting ident hi lo => Sys2Proof.Machine.execWriteSetting ident hi lo s
  | .join => Sys2Proof.Machine.execJoin s
  | .leave => Sys2Proof.Machine.execLeave s
  | .softReset => Sys2Proof.Machine.execSoftReset s
  | .request chan mode start len => Sys2Proof.Machine.execRequest chan mode start len s
  | .release chan => Sys2Proof.Machine.execRelease chan s
  | .readChannel chan => Sys2Proof.Machine.execReadChannel chan s
  | .readEntry index => Sys2Proof.Machine.execReadEntry index s
  | .readPeer index => Sys2Proof.Machine.execReadPeer index s
  | .readMap first count => Sys2Proof.Machine.execReadMap first count s
  | .shedNow => Sys2Proof.Machine.execShedNow s
  | .unknownCommand code => Sys2Proof.Machine.execUnknownCommand code s
  | .transactionOpen => Sys2Proof.Machine.execTransactionOpen s
  | .transactionClose => Sys2Proof.Machine.execTransactionClose s
  | .flagByteShifted => Sys2Proof.Machine.execFlagByteShifted s
  | .outcomeByteShifted => Sys2Proof.Machine.execOutcomeByteShifted s
  | .hostJob point => Sys2Proof.Machine.execHostJob point s
  | .evaluate point => Sys2Proof.Machine.execEvaluate point s
  | .sweep point => Sys2Proof.Machine.execSweep point s
  | .peerLoss station => Sys2Proof.Machine.execPeerLoss station s
  | .placement point => Sys2Proof.Machine.execPlacement point s
  | .withdrawal chan => Sys2Proof.Machine.execWithdrawal chan s
  | .leaveDeferredChannelEffects => Sys2Proof.Machine.execLeaveDeferredChannelEffects s
  | .resyncRefill => Sys2Proof.Machine.execResyncRefill s
  | .sliceBoundary sns => Sys2Proof.Machine.execSliceBoundary sns s
  | .frameExpiry sns => Sys2Proof.Machine.execFrameExpiry sns s
  | .holdTick sns => Sys2Proof.Machine.execHoldTick sns s
  | .freeRunningSamplerTick sns => Sys2Proof.Machine.execFreeRunningSamplerTick sns s
  | .summaryTimerExpiry => Sys2Proof.Machine.execSummaryTimerExpiry s
  | .listenEnd => Sys2Proof.Machine.execListenEnd s
  | .shedHoldEnd => Sys2Proof.Machine.execShedHoldEnd s
  | .shedResend => Sys2Proof.Machine.execShedResend s
  | .attemptStart kind elapsed => Sys2Proof.Machine.execAttemptStart kind elapsed s
  | .lostArbitration cell => Sys2Proof.Machine.execLostArbitration cell s
  | .driverFault found => Sys2Proof.Machine.execDriverFault found s
  | .stationConflict cell => Sys2Proof.Machine.execStationConflict cell s
  | .heardNoticeJudged heard => Sys2Proof.Machine.execHeardNoticeJudged heard s
  | .noticeComplete dominant first => Sys2Proof.Machine.execNoticeComplete dominant first s
  | .noticeBroken kind => Sys2Proof.Machine.execNoticeBroken kind s
  | .lineFault held => Sys2Proof.Machine.execLineFault held s
  | .powerOnReset => Sys2Proof.Machine.execPowerOnReset s
  | .pinReset => Sys2Proof.Machine.execPinReset s
  | .startEdge elapsed => Sys2Proof.Machine.execStartEdge elapsed s
  | .ownEchoCell => Sys2Proof.Machine.execOwnEchoCell s
  | .pinResetEnd => Sys2Proof.Machine.execPinResetEnd s
  | .powerOnResetEnd => Sys2Proof.Machine.execPowerOnResetEnd s

end Sys2Proof.Machine
end

