-- ==== Sys2Proof/Machine/Clock.lean ====
section
/-! DEFINITION. The bytes of an open transaction as the host clocks them: what a step does on an empty queue of
commands. The table has no row for a byte, so this is the block's tick (DESIGN CHOICE, safe: log entries 1 and 14). -/

namespace Sys2Proof.Machine

/-- The command and parameter bytes shifted in so far, while a command comes in (R162). -/
def HostPhase.coming : HostPhase → Option (List Byte)
  | .command => some []
  | .parameters got => some got
  | _ => none

/-- A byte of a command has been shifted in whole, `bytes` with it: the command they spell is taken, or the phase is
PARAMETERS (R162, R163, R164). -/
def State.byteIn (bytes : List Byte) (s : State) : Host.Outcome State Fault Refusal :=
  let t := { s with serial := { s.serial with sdi := s.serial.sdi.drop 8 } }
  match decodeTransaction bytes with
  | some i => exec i { t with host := { t.host with phase := .command } }
  | none => .next { t with host := { t.host with phase := .parameters bytes } }

/-- One event of the serial clock in an open transaction (R163, R165). While a command comes in, the next eight bits of
SDI make its next byte, and fewer than eight make none. After it, the next byte to go out is chosen, or the byte that
goes out is shifted whole. With no transaction open nothing happens. -/
def State.clock (s : State) : Host.Outcome State Fault Refusal :=
  if s.host.sdoDriven then
    match s.host.phase.coming with
    | some got => if s.serial.sdi.length < 8 then .next s else s.byteIn (got ++ [bitsByte (s.serial.sdi.take 8)])
    | none => .next (if s.serial.out.isNone then s.chooseByte else s.byteOutEnds)
  else .next s

end Sys2Proof.Machine
end

