-- ==== Sys2Proof/Safety.lean ====
section
/-! DEFINITION. What a sound state of the QL8 is, block by block, in the terms the statements use. Each condition is
one a step keeps from any state that meets it, so each carries beside the rule it states the few clauses that make it
so. A sound run is one whose states meet them all. -/

namespace Sys2Proof.Safety

open Sys2Proof.Machine

/-- Every step keeps the condition, from any state at all. -/
def Kept (inv : State → Prop) : Prop := ∀ s t, inv s → step s = .next t → inv t

/-! ### Notices that have a cell form -/

/-- The window and weight fit their fields: 6 cells each, and a length from 1 to 64 (R182). -/
def ListedHasCells (l : Listed) : Prop :=
  l.win.start ≤ 63 ∧ 1 ≤ l.win.len ∧ l.win.len ≤ 64 ∧ l.weight ≤ 63

/-- The payload fits its fields, whether or not it is well formed in the sense of R79 (R77, R182). -/
def HasCells : Notice → Prop
  | .sync f => f ≤ 255
  | .shed => True
  | .release _ => True
  | .claim c w wt => ListedHasCells ⟨c, w, wt⟩
  | .leave => True
  | .summary b ls => b ≤ 4095 ∧ ls.length ≤ 8 ∧ ∀ l ∈ ls, ListedHasCells l

/-! ### The host port in the statements -/

/-- The step that brings a command of the port whole. -/
def commandStep : HostCmd → Instr
  | .nop => .nop
  | .readStatus => .readStatus
  | .readEvents => .readEvents
  | .writeEventMask m1 m2 => .writeEventMask m1 m2
  | .readSetting i => .readSetting i
  | .writeSetting i hi lo => .writeSetting i hi lo
  | .join => .join
  | .leave => .leave
  | .request c m st l => .request c m st l
  | .release c => .release c
  | .readChannel c => .readChannel c
  | .readEntry i => .readEntry i
  | .readPeer i => .readPeer i
  | .readMap f c => .readMap f c
  | .shedNow => .shedNow

/-- The open transaction awaits its command, and no held command stands before it (R163, R169). -/
def Ready (s : State) : Prop := s.host.phase = .command ∧ s.host.held = none

/-- The state with the command taken and its response ready: the next byte chosen is the ready marker (R165, R166). -/
def answered (cmd : HostCmd) (r : Response) (s : State) : State :=
  { s with host := { s.host with current := some ⟨cmd, false⟩, response := some r, phase := .waiting } }

/-- The state with the command taken and waiting for its HOST job (R166). -/
def waiting (cmd : HostCmd) (s : State) : State :=
  { s with host := { s.host with current := some ⟨cmd, false⟩, response := none, phase := .waiting } }

/-- The Table Unit runs a job, and nothing waits for its end (R15, R17, R73, R126). -/
def Runs (s : State) (j : Job) : Prop :=
  s.unit.job = some j ∧ s.unit.withdrawals = [] ∧ s.unit.leaveWaiting = false ∧ s.unit.refillWaiting = false

/-- The Table Unit free of its job. -/
def unitDone (s : State) : State := { s with unit := { s.unit with job := none } }

/-- The state with its HOST job ended and the response ready (R166). -/
def jobAnswered (r : Response) (s : State) : State :=
  { unitDone s with host := { s.host with response := some r, phase := .waiting } }

/-- The state with its EVALUATE job ended and the known sender's silence count at 0 (R7). -/
def refreshed (n : Nat) (s : State) : State :=
  { unitDone s with peers := s.peers.map fun p : Peer => if p.number = n then { p with silence := 0 } else p }

/-- The state with a job's changes made and the Table Unit free, nothing that waited carried out yet (R16, R17). -/
def changed (j : Job) (s : State) : State := unitDone (s.jobChanges j)

/-- The state with its waiting work put as given: the withdrawals, the channel effects of a leave, the refill (R17, R73,
R126). -/
def withWork (cs : List Chan) (leave refill : Bool) (s : State) : State :=
  { s with unit := { s.unit with withdrawals := cs, leaveWaiting := leave, refillWaiting := refill } }

/-- The rows that carry out what waits for the Table Unit, in the order the model takes them (R17, R73, R126; log
entry 4). -/
def waitingRows (s : State) : List Instr :=
  .leaveDeferredChannelEffects :: s.unit.withdrawals.map Instr.withdrawal ++ [.resyncRefill]

/-- The state a run of rows leads to, one after the other. -/
def runRows : List Instr → State → Option State
  | [], s => some s
  | i :: rest, s =>
    match exec i s with
    | .next t => runRows rest t
    | _ => none

/-- The state after some steps, one after the other. -/
def clocked : Nat → State → Option State
  | 0, s => some s
  | n + 1, s =>
    match step s with
    | .next t => clocked n t
    | _ => none

/-- The check a job ends with: a station DESYNC with no awaiting-summary mark left returns to JOINED (R130). -/
def checkedReturn (s : State) : State :=
  if s.station = .desync ∧ ∀ p ∈ s.peers, p.awaiting = false then State.raise .resyncDone { s with station := .joined }
  else s

/-- A station that is not one DESYNC with an empty resync set, so that the end of a job makes no return to JOINED
(R130). -/
def NoReturn (s : State) : Prop := s.station = .desync → ∃ p ∈ s.peers, p.awaiting = true

/-- The parameters of a REQUEST are outside their ranges (R55, first check). -/
abbrev badRequest (chan mode start len : Byte) : Prop :=
  7 < chan.toNat ∨ 1 < mode.toNat ∨ 63 < start.toNat ∨ len.toNat = 0 ∨ 64 < len.toNat ∨
    (mode.toNat = 0 ∧ 64 < start.toNat + len.toNat)

/-! ### Adoption of a SUMMARY -/

/-- The state with the EVALUATE job of a SUMMARY from station `n` ended, its adoption made as far as the check: the
entries, the budget report, the silence count, and the awaiting-summary mark where the adoption was complete (R7, R120 to
R122). -/
def adopted (n budget : Nat) (a : Adoption) (s : State) : State :=
  let t : State := { unitDone s with
    book := a.book
    peers := s.peers.map fun p : Peer => if p.number = n then
      { p with
        silence := 0
        budget := some budget
        mismatch := p.mismatch || decide (budget ≠ s.settings.budget)
        awaiting := p.awaiting && !(decide (s.station = .desync) && a.complete) } else p }
  if budget ≠ s.settings.budget ∧ (∃ p ∈ findPeer n s.peers, p.mismatch = false) then t.raise .budgetMismatch else t

/-- The state with channel `c` yielded: RELEASING with its re-request mark, its entry with it, its output off, its RELEASE
queued (R69). -/
def yielded (c : Chan) (s : State) : State :=
  { s with
    book := s.book.restateKey s.settings.stationNumber c .releasing
    channels := s.channels.set c { s.chan c with state := .releasing, live := false, reRequest := true }
    driven := s.driven.set c false
    txQueue := s.txQueue ++ [⟨.release c, 0, false⟩] }

/-- The state with its adoption over: a complete one returns the station to JOINED where no mark is left (R130); one that
found no room raises TABLE_FULL, which leads to DESYNC with every mark set, a longer listen, or in LEAVING nothing (R21,
R120, R126). -/
def adoptionOver (complete : Bool) (s : State) : State :=
  if complete then checkedReturn s
  else
    match s.station with
    | .listening => State.raise .tableFull { s with listenCount := s.settings.silenceLimit }
    | .joined => State.raise .desync (State.raise .tableFull { s with
        station := .desync, peers := s.peers.map fun p : Peer => { p with awaiting := true } })
    | .desync => State.raise .desync (State.raise .tableFull { s with
        peers := s.peers.map fun p : Peer => { p with awaiting := true } })
    | _ => s.raise .tableFull

/-- A slice that the check takes and finds above BUDGET: a listed entry that was added covers it, and its committed sum
is over (R123). -/
def OverBudget (budget : Nat) (a : Adoption) (i : Fin 64) : Prop :=
  (∃ w ∈ a.added, w.start ≤ i.val ∧ i.val < w.start + w.len) ∧ budget < (a.book.map.get i).committed

/-! ### Leaving the line -/

/-- The step makes a running station HALTED: the line dominant for 128 T, a station number conflict in an own attempt, or
a good notice heard with the own number (R92, R104, R110, R145). -/
def Halts (s : State) (i : Instr) (cause : HaltCause) : Prop :=
  s.station.running = true ∧
    ((∃ elapsed, i = .lineFault (.on elapsed) ∧ cause = .lineFault ∧ 512 ≤ s.line.faultTimer + elapsed) ∨
      (∃ quarters, i = .lineFault (.anew quarters) ∧ cause = .lineFault ∧ 512 ≤ quarters) ∨
      (∃ cell n, i = .stationConflict cell ∧ cause = .stationConflict ∧ 10 ≤ cell ∧ s.line.phase = .sending n ∧
        (n.cells s.settings.stationNumber)[cell - 2]? = some true) ∨
      (∃ n rest run, i = .heardNoticeJudged ⟨n.cells s.settings.stationNumber ++ rest, run⟩ ∧ cause = .stationConflict ∧
        s.line.phase = .decoding ∧ HasCells n ∧ n.wellFormed = true ∧ 1 ≤ s.settings.stationNumber ∧
        s.settings.stationNumber ≤ 32))

/-- The step is the completion of the station's own leave (R143). -/
def CompletesLeave (s : State) (i : Instr) : Prop :=
  i = .evaluate .finish ∧ ∃ n, s.unit.job = some (.evaluate ⟨true, n, .leave⟩)

/-- Everything but the station state, the channels and the event flags, as entry to UNJOINED or HALTED leaves it
(R23, R39, R64, R90, R96, R112, R116, R143, R145, R147, R151, R153). -/
def offTheLine (s : State) : State :=
  { s with
    listenCount := 0
    line := ⟨.idle, 0, 0⟩
    txQueue := []
    summaryTimer := 0
    rxQueue := []
    timer := ⟨false, 0, 0, false, 0⟩
    book := Book.empty
    peers := []
    unit := TableUnit.free
    grants := []
    driven := Vector.replicate 8 false
    shed := ⟨.idle, 0, 0⟩
    supply := { s.supply with
      samplerRunning := true
      samplerInterval := 25 * 2 ^ s.settings.sliceLength } }

/-- A channel record with every mark but the outcome's cleared (R74, R75). -/
def unmarked (ch : Channel) : Channel :=
  { ch with releasePending := false, reRequest := false, live := false, shedSuspended := false }

/-- A channel record dropped: IDLE with DROPPED, its stored request and attempt count kept (R74, R75). -/
def droppedRecord (reading : Bool) (ch : Channel) : Channel :=
  { unmarked ch with
    state := .idle
    window := none
    outcome := .dropped
    outcomeWindow := none
    fresh := true
    rewrite := ch.rewrite || reading }

/-! ### The table and its map -/

/-- The total weight of the entries of a kind that cover a slice, counted from the table (R5). -/
def weightOver (kind : Entry → Bool) (b : Book) (slice : Nat) : Nat :=
  (positions.map fun p =>
    match b.entry p with
    | some e => if kind e && e.win.covers slice then e.weight else 0
    | none => 0).sum

/-- The occupancy map is what the table makes it: in every slice the committed sum is the weight of the HELD and
RELEASING entries, the tentative sum that of the CLAIMING entries (R5). -/
def MapMatches (b : Book) : Prop :=
  ∀ i : Fin 64,
    (b.map.get i).committed = weightOver (fun e => e.state != .claiming) b i.val ∧
      (b.map.get i).tentative = weightOver (fun e => e.state == .claiming) b i.val

/-- No two positions hold the same key (R1). -/
def KeysDistinct (b : Book) : Prop :=
  ∀ p q : Fin 96, ∀ e ∈ b.entry p, ∀ f ∈ b.entry q, e.owner = f.owner → e.chan = f.chan → p = q

/-- A running PLACEMENT job serves a channel that is PLACING (R25). -/
def PlacementServes (s : State) : Prop :=
  ∀ c : Chan, s.unit.job = some (.placement c) → (s.chan c).state = .placing

/-- The notices on their way to evaluation: in the receive queue, accepted and not yet complete, or in the running
EVALUATE job. -/
def receivedItems (s : State) : List RxItem :=
  s.rxQueue ++
    (match s.line.phase with
      | .judged (.accepted item) => [item]
      | _ => []) ++
    (match s.unit.job with
      | some (.evaluate item) => [item]
      | _ => [])

/-- The heard ones of them. -/
def heardItems (s : State) : List RxItem := (receivedItems s).filter fun i => !i.own

/-- The entry state that goes with a channel state, where there is one (R3). -/
def entryStateOf : ChanState → Option EntryState
  | .claiming => some .claiming
  | .held => some .held
  | .releasing => some .releasing
  | _ => none

/-- An entry of the table is as its owner makes it: an own one matches its channel in state, window and weight; a
peer's is HELD, and the peer has a record (R2, R3, R4, R24). -/
def EntryMatches (s : State) (e : Entry) : Prop :=
  if e.owner = s.settings.stationNumber then
    entryStateOf (s.chan e.chan).state = some e.state ∧ (s.chan e.chan).window = some e.win ∧
      e.weight = s.settings.weight.get e.chan
  else e.state = .held ∧ ∃ p ∈ s.peers, p.number = e.owner

/-- The reservation table agrees with the channels and the peers, none of which is the station itself (R1 to R4,
R113). -/
def EntriesLegal (s : State) : Prop :=
  KeysDistinct s.book ∧ (∀ p : Fin 96, ∀ e ∈ s.book.entry p, EntryMatches s e) ∧
    (∀ c : Chan, (entryStateOf (s.chan c).state).isSome = true →
      ∃ p : Fin 96, ∃ e ∈ s.book.entry p, e.owner = s.settings.stationNumber ∧ e.chan = c) ∧
    PlacementServes s ∧ (∀ p ∈ s.peers, p.number ≠ s.settings.stationNumber) ∧
    (∀ i ∈ heardItems s, i.sender ≠ s.settings.stationNumber ∧ i.notice.wellFormed = true) ∧
    (s.station.running = false → s.book = Book.empty ∧ s.peers = [] ∧ heardItems s = [])

/-! ### Peers and resynchronisation -/

/-- The peer table: ascending station numbers from 1 to 32, none the own number, silence counts up to 64 (R113). -/
def PeersLegal (s : State) : Prop :=
  s.peers.Pairwise (fun p q => p.number < q.number) ∧
    (∀ p ∈ s.peers, 1 ≤ p.number ∧ p.number ≤ 32 ∧ p.number ≠ s.settings.stationNumber ∧ p.silence ≤ 64) ∧
    (∀ i ∈ heardItems s, 1 ≤ i.sender ∧ i.sender ≤ 32 ∧ i.sender ≠ s.settings.stationNumber) ∧
    (s.station.running = false → s.peers = [] ∧ heardItems s = [])

/-- A job that can clear awaiting-summary marks is running (R128). -/
def clearsMarks : Option Job → Bool
  | some (.evaluate _) => true
  | some (.sweep _) => true
  | _ => false

/-- The resync set: marks only in DESYNC, or in a leave that has still to clear them; and a station stays DESYNC only
with a mark set, a refill waiting, or a job running after which the check is made (R126, R130, R131). -/
def ResyncLegal (s : State) : Prop :=
  (∀ p ∈ s.peers, p.awaiting = true → s.station = .desync ∨ s.unit.leaveWaiting = true) ∧
    (s.station = .desync →
      (∃ p ∈ s.peers, p.awaiting = true) ∨ s.unit.refillWaiting = true ∨ clearsMarks s.unit.job = true) ∧
    (s.unit.leaveWaiting = true → s.station = .leaving)

/-! ### Channels and outputs -/

/-- The condition under which an output may be asserted: HELD, live, not shed-suspended, the slice in the window
(R67). -/
def MayDrive (ch : Channel) (slice : Nat) : Prop :=
  ch.state = .held ∧ ch.live = true ∧ ch.shedSuspended = false ∧
    ∃ w ∈ ch.window, w.start ≤ slice ∧ slice < w.start + w.len

/-- No output is asserted outside its condition (R67, R147). -/
def OutputsSafe (s : State) : Prop :=
  (∀ c : Chan, s.driven.get c = true → MayDrive (s.chan c) s.timer.slice) ∧ PlacementServes s ∧
    (s.timer.running = true → s.station.running = true) ∧
    (s.station.running = false → ∀ c : Chan, s.driven.get c = false)

/-- The marks of a channel record stand only in their states, a window is recorded exactly in CLAIMING, HELD and
RELEASING, and no request is placed more than four times (R32, R53). -/
def RecordLegal (ch : Channel) : Prop :=
  (ch.live = true → ch.state = .held ∧ ch.shedSuspended = false) ∧
    (ch.releasePending = true → ch.state = .placing ∨ ch.state = .claiming) ∧
    (ch.reRequest = true → ch.state = .releasing) ∧
    (ch.window.isSome = (entryStateOf ch.state).isSome) ∧ ch.attempts ≤ 4

/-- Every channel record is legal (R53). -/
def ChannelsLegal (s : State) : Prop := (∀ c : Chan, RecordLegal (s.chan c)) ∧ PlacementServes s

/-- The grant list holds each HELD or RELEASING channel exactly once and no other (R64). -/
def GrantsLegal (s : State) : Prop :=
  s.grants.Nodup ∧
    (∀ c : Chan, c ∈ s.grants ↔ (s.chan c).state = .held ∨ (s.chan c).state = .releasing) ∧ PlacementServes s

/-! ### Queues -/

/-- The rank of a notice in the order of the transmit queue (R81). -/
def rank (i : TxItem) : Nat := if i.body.isSync then 0 else if i.body.isShed then 1 else 2

/-- The transmit queue: the SYNC first, the SHED behind it, at most one SYNC, SHED, SUMMARY and LEAVE, at most one
item in an attempt, and one exactly while the line carries an attempt of this station (R80, R81, R82); nothing in it
while the driver is released (R96, R99). -/
def TransmitLegal (s : State) : Prop :=
  s.txQueue.Pairwise (fun i j => rank i ≤ rank j) ∧ s.txQueue.countP (fun i => i.body.isSync) ≤ 1 ∧
    s.txQueue.countP (fun i => i.body.isShed) ≤ 1 ∧ s.txQueue.countP (fun i => i.body.isSummary) ≤ 1 ∧
    s.txQueue.countP (fun i => i.body.isLeave) ≤ 1 ∧ s.txQueue.countP (fun i => i.inAttempt) ≤ 1 ∧
    (s.txQueue.any (fun i => i.inAttempt) = s.line.phase.isOwn) ∧
    (s.station.running = false → s.txQueue = [] ∧ s.line = LineInterface.quiet)

/-- The channel a queued CLAIM or RELEASE serves, with the channel state it goes with (R80, R87, R94). -/
def bodyServes : TxBody → Option (Chan × ChanState)
  | .claim c _ _ => some (c, .claiming)
  | .release c => some (c, .releasing)
  | _ => none

/-- The same of a notice on the line or delivered. -/
def noticeServes : Notice → Option (Chan × ChanState)
  | .claim c _ _ => some (c, .claiming)
  | .release c => some (c, .releasing)
  | _ => none

/-- The station's own CLAIMs and RELEASEs that have still to take effect: in the transmit queue, or delivered and not yet
evaluated. -/
def ownChannelNotices (s : State) : List (Chan × ChanState) :=
  s.txQueue.filterMap (fun i => bodyServes i.body) ++
    ((receivedItems s).filter fun i => i.own).filterMap fun i => noticeServes i.notice

/-- The notice of an own attempt. -/
def LinePhase.ownNotice : LinePhase → Option Notice
  | .sending n => some n
  | .ownEcho n _ => some n
  | _ => none

/-- One CLAIM or RELEASE at most for each channel (R80): its own notices are in JOINED and DESYNC those of its state, a
withdrawal that waits has taken its CLAIM away, and a station whose driver makes no attempts has none. -/
def ChannelNoticesLegal (s : State) : Prop :=
  ((ownChannelNotices s).map (fun n => n.1)).Nodup ∧
    (s.station.online = true →
      (∀ n ∈ ownChannelNotices s, (s.chan n.1).state = n.2) ∧
        ∀ c ∈ s.unit.withdrawals, (s.chan c).state = .claiming ∧ ∀ n ∈ ownChannelNotices s, n.1 ≠ c) ∧
    (s.station.sends = false → ownChannelNotices s = [] ∧ s.unit.withdrawals = []) ∧
    (∀ i ∈ s.txQueue.find? (fun i => i.inAttempt), ∀ n ∈ LinePhase.ownNotice s.line.phase,
      noticeServes n = bodyServes i.body) ∧
    (s.unit.leaveWaiting = true → s.station = .leaving) ∧ PlacementServes s

/-- A place of the receive queue is reserved for the notice on the line (R92, R93). -/
def reserved (s : State) : Nat :=
  match s.line.phase with
  | .judged (.accepted _) => 1
  | .ownEcho _ true => 1
  | _ => 0

/-- The receive queue with its reservation stays within its four places (R91 to R93). -/
def ReceiveLegal (s : State) : Prop := s.rxQueue.length + reserved s ≤ 4

/-! ### Frame Timer, Shed Control, Station Controller -/

/-- The frame number a notice would make the Frame Timer take is one of 0 to 255. -/
def Notice.frameLegal : Notice → Prop
  | .sync f => f < 256
  | _ => True

/-- The same of a queued notice. -/
def TxBody.frameLegal : TxBody → Prop
  | .sync f => f < 256
  | _ => True

/-- The same of the notice on the line. -/
def LinePhase.frameLegal : LinePhase → Prop
  | .judged (.accepted i) => Notice.frameLegal i.notice
  | .judged (.overrun i) => Notice.frameLegal i.notice
  | .sending n => Notice.frameLegal n
  | .ownEcho n _ => Notice.frameLegal n
  | _ => True

/-- The Frame Timer runs in the four running states and stands at its stopped values otherwise; its counts stay in
their ranges; it holds only at slice 63, in JOINED, DESYNC or LEAVING (R38, R42, R44). -/
def TimerLegal (s : State) : Prop :=
  s.timer.running = s.station.running ∧ (s.station.running = false → s.timer = FrameTimer.stopped) ∧
    s.timer.slice ≤ 63 ∧ s.timer.frame ≤ 255 ∧ s.timer.sweepPending ≤ 64 ∧
    (s.timer.hold = true → s.timer.slice = 63 ∧ s.station ≠ .listening) ∧
    (∀ i ∈ s.txQueue, TxBody.frameLegal i.body) ∧ LinePhase.frameLegal s.line.phase

/-- SHEDDING only in JOINED and DESYNC, with counts in their ranges and a re-send running exactly while the supply is
LOW; IDLE with both counts 0 otherwise; the shed-suspended marks exactly those of the sheddable channels in a shed
(R66, R153 to R158). -/
def ShedLegal (s : State) : Prop :=
  (match s.shed.state with
    | .shedding =>
      s.station.online = true ∧ 1 ≤ s.shed.hold ∧ s.shed.hold ≤ 64 ∧ s.shed.resend ≤ 32 ∧
        (s.supply.state = .low ↔ 1 ≤ s.shed.resend)
    | .idle => s.shed.hold = 0 ∧ s.shed.resend = 0) ∧
    (∀ c : Chan, (s.chan c).shedSuspended = (s.shed.state == .shedding && s.settings.sheddable.get c)) ∧
    1 ≤ s.settings.shedHold ∧ s.settings.shedHold ≤ 64

/-- Every setting lies in its range of Table 8-3 (R135). -/
def SettingsLegal (s : State) : Prop :=
  s.settings.stationNumber ≤ 32 ∧ s.settings.lineRate ≤ 3 ∧ s.settings.sliceLength ≤ 7 ∧
    (1 ≤ s.settings.budget ∧ s.settings.budget ≤ 4095) ∧
    (2 ≤ s.settings.summaryInterval ∧ s.settings.summaryInterval ≤ 32) ∧
    (4 ≤ s.settings.silenceLimit ∧ s.settings.silenceLimit ≤ 64) ∧
    (1 ≤ s.settings.shedHold ∧ s.settings.shedHold ≤ 64) ∧ s.settings.supplyThreshold ≤ 31 ∧
    ∀ c : Chan, s.settings.weight.get c ≤ 63

/-- The halt cause is NONE in every state but HALTED, and the listen count runs in LISTENING alone (R133). -/
def StationLegal (s : State) : Prop :=
  (s.haltCause = .none ↔ s.station ≠ .halted) ∧
    (if s.station = .listening then 1 ≤ s.listenCount ∧ s.listenCount ≤ 64 else s.listenCount = 0) ∧
    1 ≤ s.settings.silenceLimit ∧ s.settings.silenceLimit ≤ 64

/-- The job is none, or the HOST job of a read (R147). -/
def quietJob : Option Job → Bool
  | none => true
  | some (.host _) => true
  | _ => false

/-- In UNJOINED and HALTED the tables, the grant list and both queues are empty, every output is deasserted, the line
is quiet, the timers stand, no shed runs, and no job runs but a HOST job (R147). -/
def QuietWhenOff (s : State) : Prop :=
  s.station.running = false →
    s.book = Book.empty ∧ s.peers = [] ∧ s.grants = [] ∧ s.txQueue = [] ∧ s.rxQueue = [] ∧
      s.driven = Vector.replicate 8 false ∧ s.line = LineInterface.quiet ∧ s.timer = FrameTimer.stopped ∧
      s.summaryTimer = 0 ∧ s.listenCount = 0 ∧ s.shed = ShedControl.idle ∧ s.unit.withdrawals = [] ∧
      s.unit.leaveWaiting = false ∧ s.unit.refillWaiting = false ∧ quietJob s.unit.job = true

/-- A sound state meets every condition of this file. -/
def Sound (s : State) : Prop :=
  MapMatches s.book ∧ EntriesLegal s ∧ PeersLegal s ∧ ResyncLegal s ∧ OutputsSafe s ∧ ChannelsLegal s ∧
    GrantsLegal s ∧ TransmitLegal s ∧ ChannelNoticesLegal s ∧ ReceiveLegal s ∧ TimerLegal s ∧ ShedLegal s ∧ SettingsLegal s ∧
    StationLegal s ∧ QuietWhenOff s

end Sys2Proof.Safety
end

