-- ==== Sys2Proof/WellFormed.lean ====
section
/-! DEFINITION. Which terms of `Instr` are steps of the block at all: an unknown command whose byte names no
command (R164), a mismatch in a cell where the rule finds it (R102), a line that never went low in the start cell alone
(R105), an echo cell of at most 2 T (R108), a station number from 1 to 32 (R113). -/

namespace Sys2Proof

/-- The term is a step the manual has. -/
def Instr.wellFormed : Instr → Bool
  | .unknownCommand code => decide (code.toNat ∉ commandCodes)
  | .lostArbitration cell => decide (2 ≤ cell ∧ cell ≤ 9)
  | .stationConflict cell => decide (10 ≤ cell)
  | .driverFault found => decide (1 ≤ found.cell) && (found.returned.isSome || found.cell == 1)
  | .noticeComplete dominant _ => decide (1 ≤ dominant ∧ dominant ≤ 8)
  | .peerLoss n => decide (1 ≤ n ∧ n ≤ 32)
  | _ => true

end Sys2Proof
end

