-- ==== Sys2Proof/Certificates/Slice0/Obligations.lean ====
section
/-! DEFINITION. The statements for the provers, from the numbered rules of the manual. A statement about one step has
the step's next state as its conclusion, written out as the state before it with what the step changes, so that the
rest is its frame. -/

open Sys2Proof Sys2Proof.Machine Sys2Proof.Safety

/-! ### The queue of commands, and rules over every step -/

/-- A step takes the command at the front of the queue and carries it out on the state with the queue's rest. On an
empty queue with SDO high-impedance, no transaction being open, the block idles: that clause is the model's choice (log
entry 1). -/
def Obligations.StepTakesTheFrontCommand : Prop :=
  (∀ (c : Instr) (rest : List Instr) (s : State),
    step { s with pending := c :: rest } = exec c { s with pending := rest }) ∧
  (∀ s : State, s.pending = [] → s.host.sdoDriven = false → step s = .next s)

/-- No command changes the queue of those that wait; settings are written while the station is UNJOINED and fixed from
JOIN until it is UNJOINED again (R136): a step that ends in any other station state changes none; and a flag stays set
until a flag byte of READ_EVENTS is shifted out or a reset clears it (R178). The station enters HALTED on a LINE_FAULT or
a STATION_CONFLICT report and on nothing else; the halt cause names the report and HALTED is raised (R145). -/
def Obligations.QueueSettingsAndFlagsStandAndOnlyLineReportsHalt : Prop :=
  ∀ (i : Instr) (s t : State), exec i s = .next t →
    t.pending = s.pending ∧ (t.station ≠ .unjoined → t.settings = s.settings) ∧
      (∀ e : Event, i ≠ .flagByteShifted → i ≠ .softReset → i ≠ .pinReset → i ≠ .powerOnReset →
        s.events.isSet e = true → t.events.isSet e = true) ∧
      (s.station ≠ .halted → t.station = .halted →
        t.events.isSet .halted = true ∧
          ((t.haltCause = .lineFault ∧ ∃ held, i = .lineFault held) ∨
            (t.haltCause = .stationConflict ∧
              ((∃ n, i = .stationConflict n) ∨ ∃ heard, i = .heardNoticeJudged heard))))

/-- An output goes from deasserted to asserted at a slice boundary or at a frame start and at no other step (R67). The
frame starts come, with the slice at 0 after them, with a frame expiry, with the completion of a SYNC, or at the end of a
hold in LEAVING, which a SYNC that ends broken brings (R41, R44, R45, R48). -/
def Obligations.OutputsComeOnOnlyAtBoundaries : Prop :=
  ∀ (i : Instr) (s t : State) (c : Chan), exec i s = .next t →
    s.driven.get c = false → t.driven.get c = true →
      (∃ n, i = .sliceBoundary n) ∨
        (t.timer.slice = 0 ∧ t.timer.hold = false ∧
          ((∃ n, i = .frameExpiry n) ∨
            (∃ dominant first, i = .noticeComplete dominant first ∧
              ((∃ place, s.line.phase = .ownEcho (.sync t.timer.frame) place) ∨
                ∃ item, item.notice = .sync t.timer.frame ∧
                  (s.line.phase = .judged (.accepted item) ∨ s.line.phase = .judged (.overrun item)))) ∨
            (s.station = .leaving ∧ s.timer.hold = true ∧
              ((∃ k, i = .noticeBroken k) ∨ ∃ found, i = .driverFault found))))

/-! ### Invariants -/

/-- The occupancy map stays what the table makes it (R5). -/
def Obligations.MapAlwaysMatchesTheTable : Prop := Kept fun s => MapMatches s.book

/-- One entry for a key; own entries match their channels; every peer entry is HELD and its owner has a record (R1 to
R4). -/
def Obligations.EntriesAlwaysMatchChannelsAndPeers : Prop := Kept EntriesLegal

/-- The peer table stays in ascending order, without the own number, its counts in range (R113); awaiting-summary marks
stand in DESYNC alone, and a station does not stay DESYNC with an empty resync set (R126, R130, R131). -/
def Obligations.PeersAndResyncSetStayLegal : Prop := Kept PeersLegal ∧ Kept ResyncLegal

/-- No output is ever asserted outside its own HELD, live, unsuspended window (R67, R147). -/
def Obligations.OutputsStayInTheirWindows : Prop := Kept OutputsSafe

/-- The marks, the window and the attempt count of a channel record stay as R53 and R32 allow, and the grant list stays
exactly the HELD and RELEASING channels, each once (R64). -/
def Obligations.ChannelsAndGrantListStayLegal : Prop := Kept ChannelsLegal ∧ Kept GrantsLegal

/-- The transmit queue keeps its order, at most one SYNC, SHED, SUMMARY and LEAVE, and one item in an attempt at most (R80
to R82); the receive queue with its reservation stays within four places (R91 to R93). That a channel has one notice at
most is the next statement. -/
def Obligations.QueuesKeepTheirOrderAndPlaces : Prop := Kept TransmitLegal ∧ Kept ReceiveLegal

/-- Each channel has at most one CLAIM or RELEASE on its way, in the transmit queue or delivered and not yet evaluated, and
in JOINED and DESYNC it is that of the channel's state; with the kinds that come once, the transmit queue never holds more
than 12 notices (R80). -/
def Obligations.EachChannelHasOneNotice : Prop :=
  Kept ChannelNoticesLegal ∧
    ∀ s : State, TransmitLegal s → ChannelNoticesLegal s →
      s.txQueue.length ≤ 12 ∧
        ∀ c : Chan, s.txQueue.countP (fun i => (bodyServes i.body).any fun n => n.1 == c) ≤ 1

/-- The Frame Timer runs exactly in the four running states with its counts in range (R38, R39); SHEDDING exists only in
JOINED and DESYNC with the marks of a shed (R66, R153); the settings stay in their ranges (R135); the halt cause is NONE
outside HALTED and the listen count 0 outside LISTENING (R133). In UNJOINED and HALTED everything stays empty, off and
stopped (R147). -/
def Obligations.TimerShedAndControllerStayInRange : Prop :=
  Kept TimerLegal ∧ Kept ShedLegal ∧ Kept SettingsLegal ∧ Kept StationLegal ∧ Kept QuietWhenOff

/-- The state after reset meets every one of those conditions. -/
def Obligations.ResetStateIsSound : Prop := Sound State.reset

/-! ### Encodings -/

/-- A host command is read back from its bytes, whatever is shifted in after them; and no shorter run of its bytes is
taken as a command (R163, R164, R167). -/
def Obligations.HostCommandBytesRoundTrip : Prop :=
  ∀ (i : Instr) (bytes rest : List Byte), i.wellFormed = true → encodeTransaction i = some bytes →
    decodeTransaction (bytes ++ rest) = some i ∧
      ∀ k, k < bytes.length → decodeTransaction (bytes.take k) = none

/-- The cells a station sends for a notice are read back as that notice from that sender, whatever cells follow them, or
judged malformed where its fields are (R79, R92, R182); a run of them cut short is read as a broken notice (R109); and with
its start cell and its echo cell each kind has the length of Table 5-1 (R77, R98).
That cells after the last are no part of the notice, and how many cells were decoded before a break, is how the model
forms the step (log entry 18). -/
def Obligations.NoticeCellsRoundTrip : Prop :=
  ∀ (n : Notice) (sender : Nat),
    (HasCells n → 1 ≤ sender → sender ≤ 32 →
      (∀ rest : List Bool, decodeNotice (n.cells sender ++ rest) =
        if n.wellFormed then .good sender n else .malformedFields) ∧
      ∀ k, k < (n.cells sender).length → decodeNotice ((n.cells sender).take k) = .broken) ∧
    (n.cells sender).length + 2 =
      match n with
      | .sync _ => 34
      | .shed => 26
      | .release _ => 29
      | .claim _ _ _ => 47
      | .leave => 26
      | .summary _ ls => 42 + 21 * ls.length

/-- R106: the CRC covers the kind, sender and payload cells; the register starts at all ones; each covered cell moves it up
one place, and inverts bits 12, 5 and 0 where its top bit differed from the cell; it is sent top bit first after the last
payload cell; and a receiver that decoded other CRC cells finds a CRC failure. -/
def Obligations.CrcIsFormedCellByCell : Prop :=
  crcOf [] = 0xFFFF#16 ∧
  (∀ (cells : List Bool) (cell : Bool) (k : Nat), k < 16 →
    (crcOf (cells ++ [cell])).getLsbD k =
      xor (k != 0 && (crcOf cells).getLsbD (k - 1))
        ((k == 12 || k == 5 || k == 0) && xor ((crcOf cells).getLsbD 15) cell)) ∧
  (∀ cells : List Bool, (crcCells cells).length = 16 ∧
    ∀ k, k < 16 → (crcCells cells)[k]? = some ((crcOf cells).getLsbD (15 - k))) ∧
  (∀ (n : Notice) (sender : Nat),
    n.cells sender = natBits 3 n.kind ++ natBits 5 (sender - 1) ++ n.payloadCells ++
      crcCells (natBits 3 n.kind ++ natBits 5 (sender - 1) ++ n.payloadCells)) ∧
  (∀ (n : Notice) (sender : Nat) (crc : List Bool) (s : State), HasCells n → 1 ≤ sender → sender ≤ 32 →
    crc.length = 16 → crc ≠ crcCells (n.coveredCells sender) →
      decodeNotice (n.coveredCells sender ++ crc) = .crcFailure ∧
      (s.station.running = true → s.line.phase = .decoding → ∀ q,
        exec (.heardNoticeJudged ⟨n.coveredCells sender ++ crc, .recessive q⟩) s =
          .next { s with line := ⟨.judged .crcFailure, q, 0⟩ }))

/-! ### The host port -/

/-- NOP and the reads that need no job are answered at once: their response is ready, so that the next byte chosen is the
ready marker, and nothing but the port changes (R166, R176). READ_STATUS, READ_EVENTS and READ_CHANNEL get their fields
when that marker is chosen, which is another statement. -/
def Obligations.PortAnswersReadsAtOnce : Prop :=
  ∀ s : State, Ready s →
    exec .nop s = .next (answered .nop ⟨.plain, [], .ok⟩ s) ∧
    exec .readStatus s = .next (answered .readStatus ⟨.unformed, [], .ok⟩ s) ∧
    exec .readEvents s = .next (answered .readEvents ⟨.unformed, [], .ok⟩ s) ∧
    (∀ (ident : Byte) (id : SettingId), settingId ident = some id →
      exec (.readSetting ident) s = .next (answered (.readSetting ident)
        ⟨.plain, [byteOf (s.settings.value id / 256), byteOf (s.settings.value id)], .ok⟩ s)) ∧
    (∀ ident : Byte, settingId ident = none →
      exec (.readSetting ident) s = .next (answered (.readSetting ident) ⟨.plain, [0, 0], .badParameter⟩ s)) ∧
    (∀ b : Byte, b.toNat ≤ 7 →
      exec (.readChannel b) s = .next (answered (.readChannel b) ⟨.unformed, [], .ok⟩ s)) ∧
    (∀ b : Byte, 7 < b.toNat →
      exec (.readChannel b) s = .next (answered (.readChannel b) ⟨.plain, [0, 0, 0, 0, 0, 0, 0], .badParameter⟩ s))

/-- WRITE_EVENT_MASK replaces the whole mask, event n from bit n of its two bytes, and touches no flag (R180). ATTN#
is driven low exactly while a flag is set whose mask bit is enabled (R181). LDn is high exactly where its output is
asserted and CH_INVERT is no, or deasserted and CH_INVERT is yes: a write of CH_INVERT in UNJOINED moves a deasserted one
to the level of the new setting, after SOFT_RESET each stands at the deasserted level of its kept setting, and while a pin
or power-on reset is taken all are low (R68). -/
def Obligations.MaskFlagsAndInvertDecideThePins : Prop :=
  (∀ (s : State) (m1 m2 : Byte), Ready s →
    ∃ mask : BitVec 16,
      (∀ n, n < 8 → mask.getLsbD n = m1.getLsbD n ∧ mask.getLsbD (n + 8) = m2.getLsbD n) ∧
        exec (.writeEventMask m1 m2) s =
          .next (answered (.writeEventMask m1 m2) ⟨.plain, [], .ok⟩ { s with events := { s.events with mask := mask } })) ∧
  (∀ s : State, s.attnLow = true ↔
    ∃ e : Event, s.events.isSet e = true ∧ s.events.mask.getLsbD (eventNumber e) = true) ∧
  (∀ (s : State) (c : Chan),
    (s.ldHigh c = true ↔ (s.driven.get c = true ∧ s.settings.invert.get c = false) ∨
      (s.driven.get c = false ∧ s.settings.invert.get c = true)) ∧
    (∀ (t : State) (ident lo : Byte), Ready s → s.station = .unjoined → s.driven.get c = false → lo.toNat ≤ 1 →
      ident.toNat = 0x20 + c.val → exec (.writeSetting ident 0 lo) s = .next t →
        t.ldHigh c = decide (lo.toNat = 1) ∧ ∀ d, d ≠ c → t.ldHigh d = s.ldHigh d) ∧
    (∀ t : State, s.host.phase = .command → exec .softReset s = .next t → t.ldHigh c = s.settings.invert.get c) ∧
    (∀ t : State, exec .pinReset s = .next t ∨ exec .powerOnReset s = .next t → t.ldHigh c = false))

/-- WRITE_SETTING makes its checks in their order; an accepted write gives the setting its value and leaves every other
as it was, a new SLICE_LENGTH restarts the sampler's interval, a new SUPPLY_THRESHOLD sets the sample history to 0
(R136, R151).
That a write of the value held restarts neither the interval nor the history is read from R136 (log entry 13). -/
def Obligations.WriteSettingByItsChecks : Prop :=
  ∀ (s : State) (ident hi lo : Byte), Ready s →
    (settingId ident = none →
      exec (.writeSetting ident hi lo) s =
        .next (answered (.writeSetting ident hi lo) ⟨.plain, [], .badParameter⟩ s)) ∧
    ∀ id : SettingId, settingId ident = some id →
      (s.station ≠ .unjoined →
        exec (.writeSetting ident hi lo) s =
          .next (answered (.writeSetting ident hi lo) ⟨.plain, [], .wrongState⟩ s)) ∧
      (s.station = .unjoined → id.inRange (256 * hi.toNat + lo.toNat) = false →
        exec (.writeSetting ident hi lo) s =
          .next (answered (.writeSetting ident hi lo) ⟨.plain, [], .badParameter⟩ s)) ∧
      (s.station = .unjoined → id.inRange (256 * hi.toNat + lo.toNat) = true →
        ∃ (set : Settings) (supply : SupplyMonitor),
          exec (.writeSetting ident hi lo) s =
            .next (answered (.writeSetting ident hi lo) ⟨.plain, [], .ok⟩
              { s with settings := set, supply := supply }) ∧
          set.value id = 256 * hi.toNat + lo.toNat ∧ (∀ j, j ≠ id → set.value j = s.settings.value j) ∧
          supply = (if s.settings.value id = set.value id then s.supply
            else if id = .sliceLength then { s.supply with samplerInterval := 25 * 2 ^ set.sliceLength }
            else if id = .supplyThreshold then { s.supply with history := 0 }
            else s.supply))

/-- JOIN makes its checks in their order; accepted, it makes the station LISTENING with the receiver on and the Frame
Timer at slice 0 of frame 0, without a frame start (R39, R137, R151). LEAVE in UNJOINED, LEAVING, HALTED and LISTENING
(R141, R144).
The channels and Shed Control of a LISTENING station are IDLE in every reachable state; what the leave does to others is
the model's choice (log entry 25). -/
def Obligations.JoinAndLeaveOffTheLine : Prop :=
  ∀ s : State, Ready s →
    (s.station ≠ .unjoined → exec .join s = .next (answered .join ⟨.plain, [], .wrongState⟩ s)) ∧
    (s.station = .unjoined →
      (s.settings.stationNumber = 0 ∨ s.settings.silenceLimit < 2 * s.settings.summaryInterval ∨
          64 * (25 * 2 ^ s.settings.sliceLength) < 1024 * bitMicros s.settings.lineRate) →
        exec .join s = .next (answered .join ⟨.plain, [], .badSetting⟩ s)) ∧
    (s.station = .unjoined → s.settings.stationNumber ≠ 0 →
      2 * s.settings.summaryInterval ≤ s.settings.silenceLimit →
      1024 * bitMicros s.settings.lineRate ≤ 64 * (25 * 2 ^ s.settings.sliceLength) →
        exec .join s = .next (answered .join ⟨.plain, [], .ok⟩
          { s with
            station := .listening
            haltCause := .none
            listenCount := s.settings.silenceLimit
            line := ⟨.idle, 0, 0⟩
            timer := ⟨true, 0, 0, false, 0⟩
            supply := { s.supply with samplerRunning := false } })) ∧
    (s.station = .unjoined → exec .leave s = .next (answered .leave ⟨.plain, [], .wrongState⟩ s)) ∧
    (s.station = .leaving → exec .leave s = .next (answered .leave ⟨.plain, [], .inProgress⟩ s)) ∧
    (s.station = .halted →
      exec .leave s = .next (answered .leave ⟨.plain, [], .ok⟩
        { s with
          station := .unjoined
          haltCause := .none
          supply := { s.supply with
            samplerRunning := true
            samplerInterval := 25 * 2 ^ s.settings.sliceLength }
          events := { s.events with flags := s.events.flags ||| eventBit .leaveDone } })) ∧
    (s.station = .listening →
      ∃ (chans : Vector Channel 8) (flags : BitVec 16),
        exec .leave s = .next (answered .leave ⟨.plain, [], .ok⟩
          { offTheLine s with
            station := .unjoined
            haltCause := .none
            channels := chans
            events := { s.events with flags := flags } }) ∧
        flags = (s.events.flags ||| eventBit .leaveDone |||
          (if (∃ c : Chan, entryStateOf (s.chan c).state ≠ none) then eventBit .channelOutcome else 0#16)) ∧
        ∀ c : Chan, chans.get c =
          if entryStateOf (s.chan c).state = none then unmarked (s.chan c) else droppedRecord false (s.chan c))

/-- A LEAVE taken in JOINED or DESYNC: the station is LEAVING, every output is off, no shed runs, the queue keeps its
SYNC, SHED and what is in an attempt, with a LEAVE at its tail; with no job running the channels are withdrawn at
once, each CLAIMING one's entry freed in turn with its weight (R6, R17), and the resync set is emptied, otherwise at the
end of the job; a hold with no SYNC left ends (R44, R73, R88, R131, R142, R161). -/
def Obligations.LeaveTakenOnTheLine : Prop :=
  ∀ s : State, Ready s → s.station.online = true →
    ∃ t : State, exec .leave s = .next t ∧
      t = { s with
        station := .leaving
        host := (answered .leave ⟨.plain, [], .ok⟩ s).host
        driven := Vector.replicate 8 false
        shed := ⟨.idle, 0, 0⟩
        txQueue := placeLeave
          (s.txQueue.filter fun i => i.inAttempt || i.body.isSync || i.body.isShed || i.body.isLeave)
        timer := if s.timer.hold = true ∧ (∀ i ∈ s.txQueue, i.body.isSync = false) then
            { s.timer with
              slice := 0
              frame := (s.timer.frame + 1) % 256
              hold := false
              sweepPending := min 64 (s.timer.sweepPending + 1) }
          else s.timer
        unit := { s.unit with leaveWaiting := s.unit.job.isSome, refillWaiting := false }
        peers := if s.unit.job = none then s.peers.map (fun p : Peer => { p with awaiting := false }) else s.peers
        channels := t.channels
        book := if s.unit.job = none then
            (List.finRange 8).foldl (fun b c =>
              if (s.chan c).state = .claiming then b.dropKey s.settings.stationNumber c else b) s.book
          else s.book
        events := { s.events with flags := s.events.flags |||
          (if s.unit.job = none ∧ (∃ c : Chan, (s.chan c).state = .placing ∨ (s.chan c).state = .claiming) then
            eventBit .channelOutcome else 0#16) } } ∧
      ∀ c : Chan, t.chan c =
        if s.unit.job = none then
          match (s.chan c).state with
          | .placing => { unmarked (s.chan c) with
              state := .idle, window := none, outcome := .withdrawn, outcomeWindow := none, fresh := true }
          | .claiming => { unmarked (s.chan c) with
              state := .idle, window := none, outcome := .withdrawn, outcomeWindow := none, fresh := true }
          | _ => unmarked (s.chan c)
        else { s.chan c with live := false, shedSuspended := false }

/-- SOFT_RESET keeps the settings and the event mask and resets all else, held command or not (R149, R170); a power-on
or pin reset holds every block at its reset values with the sampler stopped, and its end starts the sampler (R148,
R151, R162, R184).
That CS# is tracked through a reset and that SOFT_RESET leaves SDO driven is the model's choice (log entry 17). -/
def Obligations.ResetsTakeTheirResetValues : Prop :=
  (∀ s : State, s.host.phase = .command →
    exec .softReset s = .next { State.reset with
      settings := s.settings
      events := ⟨0, 0, s.events.mask⟩
      supply := ⟨.normal, 0, true, 25 * 2 ^ s.settings.sliceLength⟩
      host := { State.reset.host with csLow := s.host.csLow, sdoDriven := s.host.sdoDriven }
      serial := ⟨[], none, 0⟩
      resets := s.resets
      pending := s.pending }) ∧
  (∀ s : State,
    exec .powerOnReset s = .next { State.reset with
      supply := ⟨.normal, 0, false, 200⟩
      host := { State.reset.host with csLow := s.host.csLow }
      serial := ⟨[], none, 0⟩
      resets := ⟨s.resets.pin, true⟩
      pending := s.pending } ∧
    exec .pinReset s = .next { State.reset with
      supply := ⟨.normal, 0, false, 200⟩
      host := { State.reset.host with csLow := s.host.csLow }
      serial := ⟨[], none, 0⟩
      resets := ⟨true, s.resets.power⟩
      pending := s.pending }) ∧
  (∀ s : State, s.resets.pin = true →
    exec .pinResetEnd s = .next { s with
      resets := ⟨false, s.resets.power⟩
      supply := if s.resets.power then s.supply
        else { s.supply with samplerRunning := true, samplerInterval := 25 * 2 ^ s.settings.sliceLength } }) ∧
  (∀ s : State, s.resets.power = true →
    exec .powerOnResetEnd s = .next { s with
      resets := ⟨s.resets.pin, false⟩
      supply := if s.resets.pin then s.supply
        else { s.supply with samplerRunning := true, samplerInterval := 25 * 2 ^ s.settings.sliceLength } }) ∧
  (∀ s t : State, s.resets.pin = false → s.host.csLow = false → s.pending = [] →
    exec .powerOnReset s = .next t → exec .powerOnResetEnd t = .next State.reset)

/-- The framing of transactions: a falling edge opens one in phase COMMAND; an unknown command is answered at once,
held command or not; a rising edge discards a partial command and a response, makes a command that still waits the held
command, and clears the marks of read-to-clear bytes not shifted out whole (R163, R164, R167, R168, R179).
The bits the host has still to clock in are an input, and a close takes away those of its transaction (log entry 14). -/
def Obligations.TransactionsAreFramedByChipSelect : Prop :=
  (∀ s : State, s.host.csLow = false →
    (s.inReset = false → exec .transactionOpen s = .next { s with
      host := { s.host with
        csLow := true, sdoDriven := true, phase := .command, current := none, response := none }
      serial := ⟨s.serial.sdi, none, 0⟩ }) ∧
    (s.inReset = true → exec .transactionOpen s = .next { s with host := { s.host with csLow := true } })) ∧
  (∀ (s : State) (code : Byte), s.host.phase = .command → code.toNat ∉ commandCodes →
    exec (.unknownCommand code) s = .next { s with host := { s.host with
      response := some ⟨.plain, [], .unknownCommand⟩, phase := .waiting } }) ∧
  (∀ s : State, s.host.csLow = true →
    (s.host.response = none →
      exec .transactionClose s = .next { s with
        host := ⟨false, false, .closed, none, if s.host.held = none then s.host.current else s.host.held, none⟩
        serial := ⟨[], none, 0⟩ }) ∧
    (∀ kind fields r, s.host.response = some ⟨kind, fields, r⟩ → kind = .plain ∨ kind = .unformed →
      exec .transactionClose s = .next { s with
        host := ⟨false, false, .closed, none, s.host.held, none⟩
        serial := ⟨[], none, 0⟩ }) ∧
    (∀ rep k fields r, s.host.response = some ⟨.events rep k, fields, r⟩ →
      ∃ seconds : BitVec 16,
        exec .transactionClose s = .next { s with
          events := { s.events with seconds := seconds }
          host := ⟨false, false, .closed, none, s.host.held, none⟩
          serial := ⟨[], none, 0⟩ } ∧
        ∀ n, n < 16 → seconds.getLsbD n = (s.events.seconds.getLsbD n && decide (n < 8 * k))) ∧
    (∀ c shifted fields r, s.host.response = some ⟨.channel c shifted, fields, r⟩ →
      exec .transactionClose s = .next
        { s.setChan c { s.chan c with rewrite := (s.chan c).rewrite && shifted } with
          host := ⟨false, false, .closed, none, s.host.held, none⟩
          serial := ⟨[], none, 0⟩ }))

/-- Bytes come in on SDI most significant bit first, while SDO gives 0x00 (R163, R183): each byte of a command goes to
phase PARAMETERS until the bytes spell one (R162, R164), and the command is then taken whole, as its row takes it; a
command whose bytes all stand at SDI is so taken at its last byte, with the bits behind it left.
That the empty queue is the serial clock, a byte a step, and that fewer than eight bits make no byte, is the model's form
of it (log entries 1, 14). -/
def Obligations.CommandBytesComeInOnTheSerialClock : Prop :=
  (∀ (b : Byte) (k : Nat), (byteBits b).length = 8 ∧ (k < 8 → (byteBits b)[k]? = some (b.getLsbD (7 - k)))) ∧
  (∀ (s : State) (got : List Byte), s.pending = [] → s.host.sdoDriven = true →
    (s.host.phase = .command ∧ got = []) ∨ s.host.phase = .parameters got →
      (∀ (b : Byte) (rest : List Bool), s.serial.sdi = byteBits b ++ rest →
        (decodeTransaction (got ++ [b]) = none →
          step s = .next { s with
            host := { s.host with phase := .parameters (got ++ [b]) }
            serial := { s.serial with sdi := rest } }) ∧
        (∀ i, decodeTransaction (got ++ [b]) = some i →
          step s = exec i { s with
            host := { s.host with phase := .command }
            serial := { s.serial with sdi := rest } })) ∧
      (s.serial.sdi.length < 8 → step s = .next s) ∧
      s.sdoBits = some (List.replicate 8 false)) ∧
  (∀ (s : State) (i : Instr) (bytes : List Byte) (rest : List Bool), s.pending = [] → s.host.sdoDriven = true →
    s.host.phase = .command → i.wellFormed = true → encodeTransaction i = some bytes →
      s.serial.sdi = bytes.flatMap byteBits ++ rest →
        ∃ t : State, clocked (bytes.length - 1) s = some t ∧
          step t = exec i { s with serial := { s.serial with sdi := rest } })

/-- Bytes go out on SDO most significant bit first, each chosen when its first bit is presented (R163, R165, R183): busy
markers while no response is ready; the ready marker, at which READ_STATUS, READ_EVENTS and READ_CHANNEL get their fields
of Table 12-3 (R166, R175, R179) and phase RESPONSE begins; the response fields and the result byte, after which phase
TRAILING begins (R162); then filler, which is all there is after SOFT_RESET too (R149, R170). The end of a flag byte or of
the outcome byte is the row of that name (R72, R179). SDO is high-impedance where it is not driven.
That the choice of a byte and its end are a step each is the model's form of it (log entries 1, 14). -/
def Obligations.ResponseBytesGoOutOnTheSerialClock : Prop :=
  (∀ s : State, s.pending = [] → s.host.sdoDriven = true → s.serial.out = none →
    (s.host.phase = .waiting → s.host.response = none →
      step s = .next { s with serial := { s.serial with out := some 0xC3 } }) ∧
    (∀ r, s.host.phase = .waiting → s.host.response = some r →
      ∃ formed : Response,
        step s = .next { s with
          host := { s.host with phase := .response, response := some formed }
          serial := { s.serial with out := some 0x5A, sent := 1 } } ∧
        (r.kind ≠ .unformed → formed = r) ∧
        (r.kind = .unformed → ∀ b,
          (s.host.current = some ⟨.readStatus, b⟩ → formed =
            ⟨.plain, [s.station.byte, s.haltCause.byte, byteOf s.timer.frame, byteOf s.timer.slice] ++
              (match s.unit.job with
                | none =>
                  [byteOf s.peers.length, byteOf (positions.countP fun p => (s.book.entry p).isSome),
                    byteOf (positions.countP fun p =>
                      (s.book.entry p).any fun e => e.owner == s.settings.stationNumber)]
                | some _ =>
                  [byteOf s.unit.lastCounts.peers, byteOf s.unit.lastCounts.entries, byteOf s.unit.lastCounts.own]) ++
              [byteOf s.txQueue.length, s.supply.state.byte, s.shed.state.byte], .ok⟩) ∧
          (s.host.current = some ⟨.readEvents, b⟩ → formed =
            ⟨.events s.events.flags 0, [s.events.flags.extractLsb' 0 8, s.events.flags.extractLsb' 8 8], .ok⟩) ∧
          (∀ (n : Byte) (c : Chan), n.toNat = c.val → s.host.current = some ⟨.readChannel n, b⟩ → formed =
            ⟨.channel c false, [(s.chan c).state.byte] ++ windowBytes (s.chan c).window ++
              [byteOf (s.chan c).attempts, (s.chan c).outcome.byte ||| (if (s.chan c).fresh then 0x80 else 0)] ++
              windowBytes (s.chan c).outcomeWindow, .ok⟩))) ∧
    (∀ r k, s.host.phase = .response → s.host.response = some r → s.serial.sent = k + 1 →
      (∀ field, r.fields[k]? = some field →
        step s = .next { s with serial := { s.serial with out := some field, sent := k + 2 } }) ∧
      (k = r.fields.length →
        step s = .next { s with serial := { s.serial with out := some r.result.byte, sent := k + 2 } })) ∧
    (s.host.phase = .trailing ∨ s.host.phase = .closed →
      step s = .next { s with serial := { s.serial with out := some 0 } })) ∧
  (∀ (s : State) (b : Byte), s.pending = [] → s.host.sdoDriven = true → s.serial.out = some b →
    ∀ done : State, done = { s with serial := { s.serial with sdi := s.serial.sdi.drop 8, out := none } } →
      (s.host.phase = .waiting ∨ s.host.phase = .trailing ∨ s.host.phase = .closed →
        step s = .next done ∧ s.sdoBits = some (byteBits b)) ∧
      (∀ r k, s.host.phase = .response → s.host.response = some r → s.serial.sent = k + 1 →
        s.sdoBits = some (byteBits b) ∧
        (r.fields.length < k → (∀ rep n, r.kind = .events rep n → 3 ≤ k) → (∀ c, r.kind = .channel c false → 6 ≤ k) →
          step s = .next { done with host := { s.host with phase := .trailing } }) ∧
        (k ≤ r.fields.length → r.kind = .plain → step s = .next done) ∧
        (∀ rep n, r.kind = .events rep n → r.fields.length = 2 →
          (k = 0 → step s = .next done) ∧ (n < 2 → k = n + 1 → step s = exec .flagByteShifted done)) ∧
        (∀ c, r.kind = .channel c false → r.fields.length = 7 →
          (k < 5 → step s = .next done) ∧ (k = 5 → step s = exec .outcomeByteShifted done)) ∧
        (∀ c, r.kind = .channel c true → k ≤ r.fields.length → step s = .next done))) ∧
  (∀ s : State, s.host.sdoDriven = false → s.sdoBits = none)

/-- A command is taken in phase COMMAND alone, a command named outside it being no step (log entry 2); behind a held
command it is latched with no effect yet; and at the end of the held command's HOST job it is taken at that moment, for
every purpose (R163, R169). -/
def Obligations.LatchedCommandWaitsForTheHeldOne : Prop :=
  (∀ (s : State) (cmd : HostCmd), s.host.phase ≠ .command → exec (commandStep cmd) s = .next s) ∧
  (∀ (s : State) (cmd : HostCmd), s.host.phase = .command → s.host.held ≠ none →
    exec (commandStep cmd) s =
      .next { s with host := { s.host with current := some ⟨cmd, false⟩, phase := .waiting } }) ∧
  (∀ (s t : State) (held : Taken) (cmd : HostCmd) (b : Bool),
    Runs s (.host held) → s.host.held = some held → s.host.response = none →
      (s.host.current = none → exec (.hostJob .finish) s = .next t →
        t.host = { s.host with held := none }) ∧
      (s.host.current = some ⟨cmd, b⟩ →
        exec (.hostJob .finish) s =
          exec (commandStep cmd) { (unitDone (s.hostChange held)) with
            host := { s.host with held := none, phase := .command } }))

/-- A command answered with any code other than OK changes no state of the part (R171): at the port it leaves
everything but the port as it was, and in a HOST job everything but the port and the job. -/
def Obligations.RefusedCommandsChangeNothing : Prop :=
  (∀ (s t : State) (cmd : HostCmd) (r : Response), Ready s → exec (commandStep cmd) s = .next t →
    t.host.response = some r → r.result ≠ .ok → t = answered cmd r s) ∧
  (∀ (s t : State) (tk : Taken) (r : Response), Runs s (.host tk) → s.host.held = none →
    exec (.hostJob .finish) s = .next t → t.host.response = some r → r.result ≠ .ok →
      t = jobAnswered r s)

/-- An event raised sets its flag, whatever the mask says, and its second-occurrence mark while a report of its byte is
being shifted; the end of a flag byte clears the flags it reported set but for those marked, and clears the marks of
the byte (R178, R179). An outcome written sets the fresh mark and raises CHANNEL_OUTCOME, with the rewrite mark where a
READ_CHANNEL of the channel is unfinished; the end of the outcome byte clears the fresh mark, or the rewrite mark in its
place (R71, R72).
The rows of these bytes stand for whatever of the response comes before them as well, the choice of the ready marker among
it (log entry 14). -/
def Obligations.ReadToClearBytesLoseNothing : Prop :=
  (∀ (s : State) (e f : Event),
    s.raise e = { s with events := (s.raise e).events } ∧ (s.raise e).events.mask = s.events.mask ∧
      ((s.raise e).events.isSet f = true ↔ s.events.isSet f = true ∨ f = e) ∧
      ((s.raise e).events.seconds.getLsbD (eventNumber f) = true ↔
        s.events.seconds.getLsbD (eventNumber f) = true ∨
          (f = e ∧ ∃ rep k fields r, s.host.response = some ⟨.events rep k, fields, r⟩ ∧
            (k = 0 ∨ (k = 1 ∧ 8 ≤ eventNumber f))))) ∧
  (∀ (s : State) (rep : BitVec 16) (k : Nat) (fields : List Byte) (r : ResultCode),
    s.host.phase = .response → s.host.response = some ⟨.events rep k, fields, r⟩ → k < 2 →
      ∃ flags seconds : BitVec 16,
        exec .flagByteShifted s = .next { s with
          events := { s.events with flags := flags, seconds := seconds }
          host := { s.host with response := some ⟨.events rep (k + 1), fields, r⟩ }
          serial := { s.serial with out := none, sent := k + 2 } } ∧
        ∀ n, n < 16 →
          if n / 8 = k then
            flags.getLsbD n = (s.events.flags.getLsbD n && !(rep.getLsbD n && !s.events.seconds.getLsbD n)) ∧
              seconds.getLsbD n = false
          else flags.getLsbD n = s.events.flags.getLsbD n ∧ seconds.getLsbD n = s.events.seconds.getLsbD n) ∧
  (∀ (s : State) (c : Chan) (k : OutcomeKind) (w : Option Window),
    ∃ mark : Bool,
      s.writeOutcome c k w = (s.setChan c { s.chan c with
        outcome := k, outcomeWindow := w, fresh := true, rewrite := (s.chan c).rewrite || mark }).raise .channelOutcome ∧
      (mark = true ↔ ∃ fields r, s.host.response = some ⟨.channel c false, fields, r⟩)) ∧
  (∀ (s : State) (c : Chan) (fields : List Byte) (r : ResultCode),
    s.host.phase = .response → s.host.response = some ⟨.channel c false, fields, r⟩ →
      exec .outcomeByteShifted s = .next
        { s.setChan c { s.chan c with
            fresh := if (s.chan c).rewrite then (s.chan c).fresh else false
            rewrite := false } with
          host := { s.host with response := some ⟨.channel c true, fields, r⟩ }
          serial := { s.serial with out := none, sent := 6 } }) ∧
  (∀ (s t : State) (b : Bool), s.pending = [] → s.host.sdoDriven = true → s.serial.out = none →
    s.host.phase = .waiting → s.host.response = some ⟨.unformed, [], .ok⟩ → step s = .next t →
      (s.host.current = some ⟨.readEvents, b⟩ → exec .flagByteShifted s = exec .flagByteShifted t) ∧
      (∀ n : Byte, s.host.current = some ⟨.readChannel n, b⟩ →
        exec .outcomeByteShifted s = exec .outcomeByteShifted t))

/-- REQUEST and RELEASE at the port: in the running states they wait for their HOST job, and a RELEASE whose channel's
PLACEMENT job runs sets the release-pending mark as it is taken; in UNJOINED and HALTED the port answers them by the
first failing check (R57, R166, R173). The three table reads are checked as they are taken, and wait for their HOST job
in every station state (R22, R117, R174). -/
def Obligations.JobCommandsWaitAtThePort : Prop :=
  ∀ s : State, Ready s →
    (∀ c m st l : Byte,
      (s.station.running = true → exec (.request c m st l) s = .next (waiting (.request c m st l) s)) ∧
      (s.station.running = false → badRequest c m st l →
        exec (.request c m st l) s = .next (answered (.request c m st l) ⟨.plain, [], .badParameter⟩ s)) ∧
      (∀ ch : Chan, s.station.running = false → ¬ badRequest c m st l → c.toNat = ch.val →
        exec (.request c m st l) s = .next (answered (.request c m st l)
          ⟨.plain, [], if s.settings.weight.get ch = 0 then .channelDisabled else .wrongState⟩ s))) ∧
    (∀ c : Byte,
      (s.station.running = false → exec (.release c) s = .next (answered (.release c)
        ⟨.plain, [], if 7 < c.toNat then .badParameter else .wrongState⟩ s)) ∧
      (s.station.running = true →
        (∀ ch : Chan, c.toNat = ch.val → s.station.online = true → s.unit.job ≠ some (.placement ch)) →
          exec (.release c) s = .next (waiting (.release c) s)) ∧
      (∀ ch : Chan, c.toNat = ch.val → s.station.online = true → s.unit.job = some (.placement ch) →
        exec (.release c) s = .next
          { s.setChan ch { s.chan ch with releasePending := true } with
            host := { s.host with current := some ⟨.release c, true⟩, response := none, phase := .waiting } })) ∧
    (∀ i : Byte, exec (.readEntry i) s = .next
      (if 95 < i.toNat then answered (.readEntry i) ⟨.plain, List.replicate 7 0, .badParameter⟩ s
      else waiting (.readEntry i) s)) ∧
    (∀ i : Byte, exec (.readPeer i) s = .next
      (if 30 < i.toNat then answered (.readPeer i) ⟨.plain, List.replicate 8 0, .badParameter⟩ s
      else waiting (.readPeer i) s)) ∧
    (∀ f n : Byte, exec (.readMap f n) s = .next
      (if n.toNat = 0 ∨ 64 < n.toNat then answered (.readMap f n) ⟨.plain, [], .badParameter⟩ s
      else if 64 < f.toNat + n.toNat then
        answered (.readMap f n) ⟨.plain, List.replicate (4 * n.toNat) 0, .badParameter⟩ s
      else waiting (.readMap f n) s))

/-- A cause of shedding (R154, R155): outside JOINED and DESYNC it changes nothing; in SHEDDING it restarts the hold, and
the re-send where the cause is a local LOW; in IDLE it enters SHEDDING, suspends the sheddable channels with their
outputs off at once (R66), and raises SHED_START; a SHED goes out for a cause of this station's own, unless one is
present. SHED_NOW is such a cause, refused with WRONG_STATE outside JOINED and DESYNC (R172, R176). -/
def Obligations.ShedCausesEnterOrRestartAShed : Prop :=
  (∀ (s : State) (localLow send : Bool),
    (s.station.online = false → s.shedCause localLow send = s) ∧
    (s.station.online = true → s.shed.state = .shedding →
      s.shedCause localLow send = { s with
        shed := { s.shed with
          hold := s.settings.shedHold
          resend := if localLow then max 1 (s.settings.shedHold / 2) else s.shed.resend }
        txQueue := if send then placeShed s.txQueue else s.txQueue }) ∧
    (OutputsSafe s → s.station.online = true → s.shed.state = .idle →
      ∃ (chans : Vector Channel 8) (driven : Vector Bool 8),
        s.shedCause localLow send = State.raise .shedStart { s with
          shed := ⟨.shedding, s.settings.shedHold,
            if s.supply.state = .low then max 1 (s.settings.shedHold / 2) else 0⟩
          channels := chans
          driven := driven
          txQueue := if send then placeShed s.txQueue else s.txQueue } ∧
        ∀ c : Chan,
          (s.settings.sheddable.get c = true →
            chans.get c = { s.chan c with shedSuspended := true, live := false } ∧ driven.get c = false) ∧
          (s.settings.sheddable.get c = false → chans.get c = s.chan c ∧ driven.get c = s.driven.get c))) ∧
  (∀ (q : List TxItem),
    ((∃ i ∈ q, i.body.isShed = true) → placeShed q = q) ∧
    ((∀ i ∈ q, i.body.isShed = false) →
      (∀ i rest, q = i :: rest → i.body.isSync = true → placeShed q = i :: ⟨.shed, 0, false⟩ :: rest) ∧
      ((∀ i rest, q = i :: rest → i.body.isSync = false) → placeShed q = ⟨.shed, 0, false⟩ :: q))) ∧
  (∀ s : State, Ready s →
    (s.station.online = false → exec .shedNow s = .next (answered .shedNow ⟨.plain, [], .wrongState⟩ s)) ∧
    (s.station.online = true → exec .shedNow s =
      .next (answered .shedNow ⟨.plain, [], .ok⟩
        (({ s with host := { s.host with response := none } }).shedCause false true))))

/-! ### The tables -/

/-- R6: each entry change alters the sums of the slices its window covers as the rule's table says, together with the
entry, and leaves every other slice unchanged. -/
def Obligations.MapMovesWithItsEntries : Prop :=
  ∀ (b : Book) (p : Fin 96) (e : Entry) (i : Fin 64),
    ((b.put p e).entry p = some e ∧ (b.put p e).map.get i =
      if e.win.start ≤ i.val ∧ i.val < e.win.start + e.win.len then
        (if e.state = .claiming then ⟨(b.map.get i).committed, (b.map.get i).tentative + e.weight⟩
        else ⟨(b.map.get i).committed + e.weight, (b.map.get i).tentative⟩)
      else b.map.get i) ∧
    (b.entry p = some e →
      ((b.drop p).entry p = none ∧ (b.drop p).map.get i =
        if e.win.start ≤ i.val ∧ i.val < e.win.start + e.win.len then
          (if e.state = .claiming then ⟨(b.map.get i).committed, (b.map.get i).tentative - e.weight⟩
          else ⟨(b.map.get i).committed - e.weight, (b.map.get i).tentative⟩)
        else b.map.get i) ∧
      (e.state = .claiming →
        (b.restate p .held).entry p = some { e with state := .held } ∧ (b.restate p .held).map.get i =
          if e.win.start ≤ i.val ∧ i.val < e.win.start + e.win.len then
            ⟨(b.map.get i).committed + e.weight, (b.map.get i).tentative - e.weight⟩
          else b.map.get i) ∧
      (e.state = .held →
        (b.restate p .releasing).entry p = some { e with state := .releasing } ∧
          (b.restate p .releasing).map.get i = b.map.get i))

/-- An entry is added at the lowest-numbered free position, and none when all are occupied; an entry keeps its position
while others come, go and change state; a removed one leaves its position free (R1). The fit test takes every slice of
the window: committed sums alone at evaluation (R8), committed plus tentative at placement (R28), each with the weight
within BUDGET. -/
def Obligations.EntriesTakeTheLowestFreePosition : Prop :=
  ∀ (b : Book) (e : Entry),
    (b.add e = none ↔ ∀ p, b.entry p ≠ none) ∧
    (∀ b', b.add e = some b' →
      ∃ p, b.entry p = none ∧ (∀ q, q < p → b.entry q ≠ none) ∧ b' = b.put p e) ∧
    (∀ p q, (b.put p e).entry q = if q = p then some e else b.entry q) ∧
    (∀ p q, (b.drop p).entry q = if q = p then none else b.entry q) ∧
    (∀ p q st, (b.restate p st).entry q =
      if q = p then (b.entry p).map (fun f => { f with state := st }) else b.entry q) ∧
    (∀ n p, (b.dropOwned n).entry p = if (b.entry p).any (fun f => f.owner == n) then none else b.entry p) ∧
    (∀ n c p, b.find n c = some p ↔
      (b.entry p).any (fun f => f.owner == n && f.chan == c) = true ∧
        ∀ q, q < p → (b.entry q).any (fun f => f.owner == n && f.chan == c) = false) ∧
    (∀ (budget weight : Nat) (w : Window),
      (b.fits false budget weight w = true ↔
        ∀ i : Fin 64, w.start ≤ i.val → i.val < w.start + w.len → (b.map.get i).committed + weight ≤ budget) ∧
      (b.fits true budget weight w = true ↔
        ∀ i : Fin 64, w.start ≤ i.val → i.val < w.start + w.len →
          (b.map.get i).committed + (b.map.get i).tentative + weight ≤ budget))

/-- R27: a FROM request tries its start, each following slice up to 64 − length, then slice 0 up to its start − 1; starts
above 64 − length are skipped, each start from 0 to 64 − length is tried exactly once, 65 − length in all; the walk uses
the map of the job, and the first that fits is the result. -/
def Obligations.FromWalkTriesEveryStartOnce : Prop :=
  (∀ (start len : Nat), start ≤ 63 → 1 ≤ len → len ≤ 64 →
    fromStarts start len =
        (List.range' start (65 - len - start)) ++ List.range (min start (65 - len)) ∧
      (fromStarts start len).length = 65 - len ∧ (fromStarts start len).Nodup ∧
      ∀ k, k ∈ fromStarts start len ↔ k ≤ 64 - len) ∧
  (∀ (s : State) (c : Chan) (w : Window), (s.chan c).mode = .fromMode →
    (s.placementWindow c = some w ↔
      w.len = (s.chan c).reqLen ∧ ∃ before after : List Nat,
        fromStarts (s.chan c).reqStart (s.chan c).reqLen = before ++ w.start :: after ∧
          s.book.fits true s.settings.budget (s.settings.weight.get c) w = true ∧
          ∀ k ∈ before, s.book.fits true s.settings.budget (s.settings.weight.get c) ⟨k, (s.chan c).reqLen⟩ = false))

/-! ### The Table Unit -/

/-- The arbiter grants the first kind wanted in the order EVALUATE, SWEEP, HOST, PLACEMENT, and PLACEMENT in JOINED
alone, for the lowest PLACING channel (R7, R15, R19, R25). A grant out of turn does not occur: that clause is the model's
choice (log entry 2), and so is that a SWEEP raises the silence counts at its grant (log entry 5). -/
def Obligations.ArbiterGrantsInOrder : Prop :=
  (∀ s : State, s.unit.job = none →
    (∀ item rest, s.rxQueue = item :: rest →
      exec (.evaluate .grant) s = .next { s with
        rxQueue := rest
        unit := { s.unit with job := some (.evaluate item), lastCounts := s.tableCounts } }) ∧
    (s.rxQueue = [] → 0 < s.timer.sweepPending →
      exec (.sweep .grant) s = .next { s with
        timer := { s.timer with sweepPending := 0 }
        peers := s.peers.map fun p : Peer => { p with silence := min 64 (p.silence + s.timer.sweepPending) }
        unit := { s.unit with job := some (.sweep false), lastCounts := s.tableCounts } }) ∧
    (∀ tk, s.rxQueue = [] → s.timer.sweepPending = 0 → s.host.waitingCommand = some tk →
      exec (.hostJob .grant) s = .next { s with
        unit := { s.unit with job := some (.host tk), lastCounts := s.tableCounts } }) ∧
    (∀ c : Chan, s.rxQueue = [] → s.timer.sweepPending = 0 → s.host.waitingCommand = none → s.station = .joined →
      (s.chan c).state = .placing → (∀ d, d < c → (s.chan d).state ≠ .placing) →
        exec (.placement .grant) s = .next { s with
          unit := { s.unit with job := some (.placement c), lastCounts := s.tableCounts } })) ∧
  (∀ s : State,
    (s.unit.job ≠ none → exec (.evaluate .grant) s = .next s ∧ exec (.sweep .grant) s = .next s ∧
      exec (.hostJob .grant) s = .next s ∧ exec (.placement .grant) s = .next s) ∧
    (s.rxQueue ≠ [] → exec (.sweep .grant) s = .next s ∧ exec (.hostJob .grant) s = .next s ∧
      exec (.placement .grant) s = .next s) ∧
    (0 < s.timer.sweepPending → exec (.hostJob .grant) s = .next s ∧ exec (.placement .grant) s = .next s) ∧
    (s.host.waitingCommand ≠ none → exec (.placement .grant) s = .next s) ∧
    (s.station ≠ .joined → exec (.placement .grant) s = .next s))

/-- A job with nothing in between is its grant and its end, one after the other (R14, R15). The end of a job makes the
job's own changes, which are the same whatever waits for the Table Unit; then what waited is carried out as its rows carry
it out, the channel effects of a leave, each waiting withdrawal, the refill, and nothing waits any more (R17, R73, R126);
then an EVALUATE and a SWEEP make the check for the return to JOINED (R130), and a HOST job hands its response to the open
transaction, or is done with as the held command, and a latched command is taken (R168, R169). The own LEAVE completes the
leave instead, in a statement of its own.
That waiting work is carried out within the end of the job, in that order, is the model's choice (log entry 4), and so are
the points of a job (log entry 5). -/
def Obligations.JobsRunFromGrantToEnd : Prop :=
  (∀ s g : State, s.unit.job = none →
    (exec (.evaluate .grant) s = .next g → exec (.evaluate .whole) s = exec (.evaluate .finish) g) ∧
    (exec (.sweep .grant) s = .next g → exec (.sweep .whole) s = exec (.sweep .finish) g) ∧
    (exec (.hostJob .grant) s = .next g → exec (.hostJob .whole) s = exec (.hostJob .finish) g) ∧
    (exec (.placement .grant) s = .next g → exec (.placement .whole) s = exec (.placement .finish) g)) ∧
  (∀ (s u : State) (j : Job) (cs : List Chan) (leave refill : Bool), s.unit.job = some j →
    u = (withWork [] false false s).jobChanges j →
      (withWork cs leave refill s).jobChanges j = withWork cs leave (refill || u.unit.refillWaiting) u) ∧
  (∀ (s t : State) (j : Job), s.unit.job = some j → (∀ n, j ≠ .evaluate ⟨true, n, .leave⟩) →
    runRows (waitingRows (changed j s)) (changed j s) = some t →
      (t.unit.withdrawals = [] ∧ t.unit.leaveWaiting = false ∧ t.unit.refillWaiting = false) ∧
      (∀ item, j = .evaluate item → exec (.evaluate .finish) s = .next (checkedReturn t)) ∧
      (∀ lost, j = .sweep lost → exec (.sweep .finish) s = .next (checkedReturn t)) ∧
      (∀ c, j = .placement c → exec (.placement .finish) s = .next t) ∧
      (∀ tk, j = .host tk →
        (s.host.held = none → exec (.hostJob .finish) s = .next { t with
          host := { s.host with response := some (s.hostResponse tk), phase := .waiting } }) ∧
        (s.host.held ≠ none → s.host.current = none ∨ s.host.response ≠ none →
          exec (.hostJob .finish) s = .next { t with host := { s.host with held := none } }) ∧
        (∀ cmd b, s.host.held ≠ none → s.host.current = some ⟨cmd, b⟩ → s.host.response = none →
          exec (.hostJob .finish) s =
            exec (commandStep cmd) { t with host := { s.host with held := none, phase := .command } })))

/-- The HOST job of a REQUEST makes its checks in their order; accepted, it makes the channel PLACING with the request
stored and the outcome cleared (R55).
The checks look at the state at the end of the job (log entry 5). -/
def Obligations.RequestJobByItsChecks : Prop :=
  ∀ (s : State) (c m st l : Byte) (b : Bool), Runs s (.host ⟨.request c m st l, b⟩) → s.host.held = none →
    (badRequest c m st l → exec (.hostJob .finish) s = .next (jobAnswered ⟨.plain, [], .badParameter⟩ s)) ∧
    ∀ ch : Chan, c.toNat = ch.val → ¬ badRequest c m st l →
      (s.settings.weight.get ch = 0 →
        exec (.hostJob .finish) s = .next (jobAnswered ⟨.plain, [], .channelDisabled⟩ s)) ∧
      (s.settings.weight.get ch ≠ 0 → s.station.online = false →
        exec (.hostJob .finish) s = .next (jobAnswered ⟨.plain, [], .wrongState⟩ s)) ∧
      (s.settings.weight.get ch ≠ 0 → s.station.online = true → (s.chan ch).state ≠ .idle →
        exec (.hostJob .finish) s = .next (jobAnswered ⟨.plain, [], .channelBusy⟩ s)) ∧
      (s.settings.weight.get ch ≠ 0 → s.station.online = true → (s.chan ch).state = .idle →
        exec (.hostJob .finish) s = .next (jobAnswered ⟨.plain, [], .ok⟩
          (s.setChan ch { s.chan ch with
            state := .placing
            mode := if m.toNat = 0 then .atMode else .fromMode
            reqStart := st.toNat
            reqLen := l.toNat
            attempts := 0
            releasePending := false
            reRequest := false
            outcome := .none
            outcomeWindow := none
            fresh := false })))

/-- The HOST job of a RELEASE makes its checks in their order, and withdraws a PLACING channel, withdraws a CLAIM that
waits in the queue, marks a channel whose CLAIM is in flight, or makes a HELD channel RELEASING with its output off and
its RELEASE queued (R56 to R60).
The checks look at the state at the end of the job (log entry 5). -/
def Obligations.ReleaseJobByTheChannelState : Prop :=
  ∀ (s : State) (c : Byte) (b : Bool), Runs s (.host ⟨.release c, b⟩) → s.host.held = none →
    (7 < c.toNat → exec (.hostJob .finish) s = .next (jobAnswered ⟨.plain, [], .badParameter⟩ s)) ∧
    ∀ ch : Chan, c.toNat = ch.val →
      (b = true → exec (.hostJob .finish) s = .next (jobAnswered ⟨.plain, [], .ok⟩ s)) ∧
      (b = false → s.station.online = false →
        exec (.hostJob .finish) s = .next (jobAnswered ⟨.plain, [], .wrongState⟩ s)) ∧
      (b = false → s.station.online = true →
        ((s.chan ch).state = .idle →
          exec (.hostJob .finish) s = .next (jobAnswered ⟨.plain, [], .notHeld⟩ s)) ∧
        ((s.chan ch).state = .releasing ∨ ((s.chan ch).state = .claiming ∧ (s.chan ch).releasePending = true) →
          exec (.hostJob .finish) s = .next (jobAnswered ⟨.plain, [], .inProgress⟩ s)) ∧
        ((s.chan ch).state = .placing →
          exec (.hostJob .finish) s = .next (jobAnswered ⟨.plain, [], .ok⟩
            ((s.setChan ch { s.chan ch with
              state := .idle, window := none, releasePending := false, reRequest := false, live := false }).writeOutcome
                ch .withdrawn none))) ∧
        ((s.chan ch).state = .claiming → (s.chan ch).releasePending = false →
          (∃ i ∈ s.txQueue, i.body.isClaimOf ch = true ∧ i.inAttempt = false) →
            exec (.hostJob .finish) s = .next (jobAnswered ⟨.plain, [], .ok⟩
              (({ s with
                  book := s.book.dropKey s.settings.stationNumber ch
                  txQueue := s.txQueue.filter fun i => i.inAttempt || !i.body.isClaimOf ch }.setChan ch
                { s.chan ch with
                  state := .idle, window := none, releasePending := false, reRequest := false
                  live := false }).writeOutcome ch .withdrawn none))) ∧
        ((s.chan ch).state = .claiming → (s.chan ch).releasePending = false →
          (∀ i ∈ s.txQueue, i.body.isClaimOf ch = true → i.inAttempt = true) →
            exec (.hostJob .finish) s = .next (jobAnswered ⟨.plain, [], .ok⟩
              (s.setChan ch { s.chan ch with releasePending := true }))) ∧
        (OutputsSafe s → (s.chan ch).state = .held →
          exec (.hostJob .finish) s = .next (jobAnswered ⟨.plain, [], .ok⟩
            ({ s with
              book := s.book.restateKey s.settings.stationNumber ch .releasing
              driven := s.driven.set ch false
              txQueue := s.txQueue ++ [(⟨.release ch, 0, false⟩ : TxItem)] }.setChan ch
              { s.chan ch with state := .releasing, live := false }))))

/-- The HOST jobs of the table reads report one snapshot and change nothing but the port (R22, R117, R183).
That every field of an absent record is zero, its budget bytes too, is the model's reading (log entry 21). -/
def Obligations.TableReadJobsReportASnapshot : Prop :=
  ∀ (s : State) (b : Bool), s.host.held = none →
    (∀ (i : Byte) (p : Fin 96), Runs s (.host ⟨.readEntry i, b⟩) → i.toNat = p.val →
      exec (.hostJob .finish) s = .next (jobAnswered
        ⟨.plain, match s.book.entry p with
          | none => [0, 0, 0, 0, 0, 0, 0]
          | some e => [1, byteOf e.owner, byteOf e.chan.val, byteOf e.win.start, byteOf e.win.len, byteOf e.weight,
              e.state.byte], .ok⟩ s)) ∧
    (∀ i : Byte, Runs s (.host ⟨.readPeer i, b⟩) →
      exec (.hostJob .finish) s = .next (jobAnswered
        ⟨.plain, match s.peers[i.toNat]? with
          | none => [0, 0, 0, 0, 0, 0, 0, 0]
          | some q => [1, byteOf q.number, byteOf q.silence] ++
              (match q.budget with
                | none => [0xFF, 0xFF]
                | some v => [byteOf (v / 256), byteOf v]) ++
              [if q.mismatch then 1 else 0, if q.awaiting then 1 else 0,
                byteOf (positions.countP fun p => (s.book.entry p).any fun e => e.owner == q.number)], .ok⟩ s)) ∧
    (∀ f n : Byte, Runs s (.host ⟨.readMap f n, b⟩) → f.toNat + n.toNat ≤ 64 →
      ∃ fields : List Byte, exec (.hostJob .finish) s = .next (jobAnswered ⟨.plain, fields, .ok⟩ s) ∧
        fields.length = 4 * n.toNat ∧
        ∀ (k : Nat) (i : Fin 64), k < n.toNat → i.val = f.toNat + k →
          (fields.drop (4 * k)).take 4 =
            [byteOf (min (s.book.map.get i).committed 4095 / 256), byteOf (min (s.book.map.get i).committed 4095),
              byteOf ((s.book.map.get i).tentative / 256), byteOf (s.book.map.get i).tentative])

/-- A heard notice, a LEAVE apart, from a sender with no record first gets it one, in station order, with PEER_NEW, its
mark set in DESYNC alone; the rest of its evaluation is that of a known sender's (R7, R114). The evaluation of a SYNC or
a SHED changes no entry and no map sum; a heard one sets its sender's silence count to 0, and an own one changes nothing
(R12). An own SUMMARY changes no table (R13). -/
def Obligations.EvaluationSettlesTheSenderFirst : Prop :=
  (∀ (s : State) (n : Nat) (notice : Notice), s.unit.job = some (.evaluate ⟨false, n, notice⟩) →
    findPeer n s.peers = none → notice ≠ .leave →
      exec (.evaluate .finish) s =
        exec (.evaluate .finish)
          (State.raise .peerNew
            { s with peers := insertPeer ⟨n, 0, none, false, decide (s.station = .desync)⟩ s.peers })) ∧
  (∀ (p : Peer) (ps : List Peer), ps.Pairwise (fun q r => q.number < r.number) →
    (∀ q ∈ ps, q.number ≠ p.number) →
      (insertPeer p ps).Pairwise (fun q r => q.number < r.number) ∧
        ∀ q, q ∈ insertPeer p ps ↔ q = p ∨ q ∈ ps) ∧
  (∀ (s : State) (n : Nat) (notice : Notice), NoReturn s →
    ((∃ f, notice = .sync f) ∨ notice = .shed →
      (Runs s (.evaluate ⟨false, n, notice⟩) → findPeer n s.peers ≠ none →
        exec (.evaluate .finish) s = .next (refreshed n s)) ∧
      (Runs s (.evaluate ⟨true, n, notice⟩) → exec (.evaluate .finish) s = .next (unitDone s))) ∧
    (∀ b ls, Runs s (.evaluate ⟨true, n, .summary b ls⟩) → exec (.evaluate .finish) s = .next (unitDone s)))

/-- A heard CLAIM first loses its key's old entry, and is then tested against the committed sums: void, it leaves none;
fitting, it is added HELD; fitting with no position free, it raises TABLE_FULL, which leads to DESYNC, a longer listen
or nothing by the station state (R8, R9, R21, R126). -/
def Obligations.HeardClaimIsTestedAndAdded : Prop :=
  ∀ (s : State) (n : Nat) (c : Chan) (w : Window) (wt : Nat), Runs s (.evaluate ⟨false, n, .claim c w wt⟩) →
    NoReturn s → findPeer n s.peers ≠ none →
      ((∃ i : Fin 64, w.start ≤ i.val ∧ i.val < w.start + w.len ∧
          s.settings.budget < ((s.book.dropKey n c).map.get i).committed + wt) →
        exec (.evaluate .finish) s = .next { refreshed n s with book := s.book.dropKey n c }) ∧
      ((∀ i : Fin 64, w.start ≤ i.val → i.val < w.start + w.len →
          ((s.book.dropKey n c).map.get i).committed + wt ≤ s.settings.budget) →
        (∀ b', (s.book.dropKey n c).add ⟨n, c, w, wt, .held⟩ = some b' →
          exec (.evaluate .finish) s = .next { refreshed n s with book := b' }) ∧
        ((s.book.dropKey n c).add ⟨n, c, w, wt, .held⟩ = none →
          (s.station = .leaving → exec (.evaluate .finish) s =
            .next (State.raise .tableFull { refreshed n s with book := s.book.dropKey n c })) ∧
          (s.station = .listening → exec (.evaluate .finish) s =
            .next (State.raise .tableFull { refreshed n s with
              book := s.book.dropKey n c
              listenCount := s.settings.silenceLimit })) ∧
          (s.station.online = true → exec (.evaluate .finish) s =
            .next (State.raise .desync (State.raise .tableFull { refreshed n s with
              book := s.book.dropKey n c
              station := .desync
              peers := (refreshed n s).peers.map fun p : Peer => { p with awaiting := true } })))))

/-- An own CLAIM of a CLAIMING channel: fitting, its entry becomes HELD at its position and the channel is granted, or
goes on to RELEASING with a release pending; void, its entry is freed and the channel is placed again, or ends with
REFUSED_CONTESTED at the fourth attempt, or WITHDRAWN with a release pending. Of a channel no longer CLAIMING, it is
discarded (R9, R32, R59, R61, R64).
That last clause is the model's reading (log entry 16). -/
def Obligations.OwnClaimGrantsOrVoids : Prop :=
  ∀ (s : State) (n : Nat) (c : Chan) (w : Window) (wt : Nat), Runs s (.evaluate ⟨true, n, .claim c w wt⟩) →
    NoReturn s →
      ((s.chan c).state ≠ .claiming → exec (.evaluate .finish) s = .next (unitDone s)) ∧
      ((s.chan c).state = .claiming →
        (∀ i : Fin 64, w.start ≤ i.val → i.val < w.start + w.len →
            (s.book.map.get i).committed + wt ≤ s.settings.budget) →
          ((s.chan c).releasePending = false →
            exec (.evaluate .finish) s = .next
              (({ unitDone s with
                  book := s.book.restateKey s.settings.stationNumber c .held
                  grants := s.grants ++ [c] }.setChan c { s.chan c with state := .held }).writeOutcome c .granted
                (s.chan c).window)) ∧
          ((s.chan c).releasePending = true →
            exec (.evaluate .finish) s = .next
              ({ unitDone s with
                  book := (s.book.restateKey s.settings.stationNumber c .held).restateKey s.settings.stationNumber c
                    .releasing
                  grants := s.grants ++ [c]
                  txQueue := if s.station.online then s.txQueue ++ [(⟨.release c, 0, false⟩ : TxItem)] else s.txQueue }.setChan c
                { s.chan c with state := .releasing, releasePending := false }))) ∧
      ((s.chan c).state = .claiming →
        (∃ i : Fin 64, w.start ≤ i.val ∧ i.val < w.start + w.len ∧
            s.settings.budget < (s.book.map.get i).committed + wt) →
          ((s.chan c).releasePending = false → (s.chan c).attempts < 4 →
            exec (.evaluate .finish) s = .next
              ({ unitDone s with book := s.book.dropKey s.settings.stationNumber c }.setChan c
                { s.chan c with state := .placing, window := none, attempts := (s.chan c).attempts + 1 })) ∧
          ((s.chan c).releasePending = true ∨ 4 ≤ (s.chan c).attempts →
            exec (.evaluate .finish) s = .next
              (({ unitDone s with book := s.book.dropKey s.settings.stationNumber c }.setChan c
                { s.chan c with
                  state := .idle, window := none, releasePending := false, reRequest := false
                  live := false }).writeOutcome c
                (if (s.chan c).releasePending then .withdrawn else .refusedContested) none)))

/-- A heard RELEASE removes the sender's entry for the channel; an own one ends its RELEASING channel with RELEASED, or
after a yield makes it PLACING with YIELDED and attempt count 0; an own one of any other channel is discarded (R10,
R62, R64, R70). -/
def Obligations.ReleasesGiveTheWindowBack : Prop :=
  ∀ (s : State) (n : Nat) (c : Chan), NoReturn s →
    (Runs s (.evaluate ⟨false, n, .release c⟩) → findPeer n s.peers ≠ none →
      exec (.evaluate .finish) s = .next { refreshed n s with book := s.book.dropKey n c }) ∧
    (Runs s (.evaluate ⟨true, n, .release c⟩) →
      ((s.chan c).state ≠ .releasing → exec (.evaluate .finish) s = .next (unitDone s)) ∧
      ((s.chan c).state = .releasing → (s.chan c).reRequest = false →
        exec (.evaluate .finish) s = .next
          (({ unitDone s with
              book := s.book.dropKey s.settings.stationNumber c
              grants := s.grants.filter (· != c) }.setChan c
            { s.chan c with
              state := .idle, window := none, releasePending := false, reRequest := false
              live := false }).writeOutcome c .released (s.chan c).window)) ∧
      ((s.chan c).state = .releasing → (s.chan c).reRequest = true →
        exec (.evaluate .finish) s = .next
          (({ unitDone s with
              book := s.book.dropKey s.settings.stationNumber c
              grants := s.grants.filter (· != c) }.setChan c
            { s.chan c with
              state := .placing, window := none, attempts := 0, releasePending := false, reRequest := false
              live := false }).writeOutcome c .yielded (s.chan c).window)))

/-- A heard LEAVE removes its sender's entries and record with PEER_GONE, and has no effect from an unknown sender; the
own LEAVE completes the leave: UNJOINED, everything cleared, the windows dropped, LEAVE_DONE (R11, R23, R74, R143). A
return to JOINED follows where the last mark went (R130).
That the fresh and rewrite marks stay through a leave is read from R72 (log entry 12). -/
def Obligations.LeavesRemoveTheStation : Prop :=
  ∀ (s : State) (n : Nat),
    (Runs s (.evaluate ⟨false, n, .leave⟩) →
      (findPeer n s.peers = none → NoReturn s → exec (.evaluate .finish) s = .next (unitDone s)) ∧
      (findPeer n s.peers ≠ none →
        ((s.station = .desync → ∃ p ∈ s.peers, p.number ≠ n ∧ p.awaiting = true) →
          exec (.evaluate .finish) s = .next (State.raise .peerGone { unitDone s with
            book := s.book.dropOwned n
            peers := s.peers.filter fun p => p.number != n })) ∧
        (s.station = .desync → (∀ p ∈ s.peers, p.number ≠ n → p.awaiting = false) →
          exec (.evaluate .finish) s = .next (State.raise .resyncDone (State.raise .peerGone { unitDone s with
            station := .joined
            book := s.book.dropOwned n
            peers := s.peers.filter fun p => p.number != n }))))) ∧
    (s.unit.job = some (.evaluate ⟨true, n, .leave⟩) → s.host.waitingCommand = none →
      ∃ (chans : Vector Channel 8) (events : EventBlock),
        exec (.evaluate .finish) s = .next { offTheLine s with
          station := .unjoined, haltCause := .none, channels := chans, events := events } ∧
        events.flags = (s.events.flags ||| eventBit .leaveDone |||
          (if (∃ c : Chan, entryStateOf (s.chan c).state ≠ none) then eventBit .channelOutcome else 0#16)) ∧
        events.mask = s.events.mask ∧
        ∀ c : Chan, chans.get c =
          if entryStateOf (s.chan c).state = none then unmarked (s.chan c)
          else droppedRecord (readingOutcome s.host.response c) (s.chan c))

/-- Adoption of a heard SUMMARY makes the sender's entries the listed ones, all HELD, and touches no other owner's; it
stops at the first that finds no position free (R120). It records the budget and marks the first difference with
BUDGET_MISMATCH (R121), clears the sender's mark in DESYNC if it was complete (R122) and returns to JOINED when that was
the last (R130). An incomplete one ends with TABLE_FULL and what follows from it by the station state (R21, R126). Here no
slice it checks is above BUDGET. -/
def Obligations.SummariesReplaceTheSendersEntries : Prop :=
  ∀ (s : State) (n b : Nat) (ls : List Listed) (a : Adoption), Runs s (.evaluate ⟨false, n, .summary b ls⟩) →
    findPeer n s.peers ≠ none → a = addListed n ls (s.book.dropOwned n) →
      ((∀ p : Fin 96, ∀ e ∈ a.book.entry p, e.owner = n → ∃ l ∈ ls, e = ⟨n, l.chan, l.win, l.weight, .held⟩) ∧
        (∀ (p : Fin 96) (e : Entry), e.owner ≠ n → (a.book.entry p = some e ↔ s.book.entry p = some e)) ∧
        ∃ k, k ≤ ls.length ∧ (a.complete = true ↔ k = ls.length) ∧
          a.added = (ls.take k).map (fun l => l.win) ∧
          (∀ l ∈ ls.take k, ∃ p, a.book.entry p = some ⟨n, l.chan, l.win, l.weight, .held⟩) ∧
          (k < ls.length → ∀ p, a.book.entry p ≠ none)) ∧
      ((∀ i : Fin 64, ¬ OverBudget s.settings.budget a i) →
        exec (.evaluate .finish) s = .next (adoptionOver a.complete (adopted n b a s)))

/-- An adoption, complete or not, that leaves a slice it checks above BUDGET raises OVERCOMMIT; in JOINED and DESYNC the
newest grant that is HELD over an unresolved slice yields: RELEASING, its output off, its re-request mark set, its RELEASE
queued; no other channel changes (R69, R123). All else is as the adoption leaves it (R21, R121, R122, R130). -/
def Obligations.OvercommitMakesTheNewestGrantYield : Prop :=
  ∀ (s : State) (n b : Nat) (ls : List Listed) (a : Adoption), Runs s (.evaluate ⟨false, n, .summary b ls⟩) →
    OutputsSafe s → findPeer n s.peers ≠ none → a = addListed n ls (s.book.dropOwned n) →
      (∃ i : Fin 64, OverBudget s.settings.budget a i) →
      ∀ yields : Chan → Prop,
        (∀ c, yields c ↔ (s.chan c).state = .held ∧
          ∃ w ∈ (s.chan c).window, ∃ i : Fin 64, w.start ≤ i.val ∧ i.val < w.start + w.len ∧
            OverBudget s.settings.budget a i ∧
              s.settings.budget +
                weightOver (fun e => e.owner == s.settings.stationNumber && e.state == .releasing) a.book i.val <
                  (a.book.map.get i).committed) →
        (s.station.online = false ∨ (∀ c ∈ s.grants, ¬ yields c) →
          exec (.evaluate .finish) s = .next (adoptionOver a.complete ((adopted n b a s).raise .overcommit))) ∧
        (∀ c older newer, s.station.online = true → s.grants = older ++ c :: newer → yields c →
          (∀ d ∈ newer, ¬ yields d) →
            exec (.evaluate .finish) s =
              .next (adoptionOver a.complete (yielded c ((adopted n b a s).raise .overcommit))))

/-- A SWEEP declares lost every peer at SILENCE_LIMIT: entries and record go together, PEER_GONE once for the job; a
peer can be lost on its own within the running job, in ascending station number and out of that order not at all (R19,
R20, R116). With the last awaited peer lost the station returns
to JOINED (R128, R130).
When in its job a sweep adds the silence counts and makes its losses is the model's choice (log entry 5). -/
def Obligations.SweepsLoseSilentPeers : Prop :=
  ∀ (s : State) (lost : Bool), PeersLegal s →
    (∀ n p, s.unit.job = some (.sweep lost) → findPeer n s.peers = some p → s.settings.silenceLimit ≤ p.silence →
      (∀ q ∈ s.peers, s.settings.silenceLimit ≤ q.silence → n ≤ q.number) →
        exec (.peerLoss n) s = .next { s with
          book := s.book.dropOwned n
          peers := s.peers.filter fun q => q.number != n
          unit := { s.unit with job := some (.sweep true) } }) ∧
    (∀ n, (∀ p ∈ s.peers, p.number = n → p.silence < s.settings.silenceLimit ∨
        ∃ q ∈ s.peers, q.number < n ∧ s.settings.silenceLimit ≤ q.silence) →
      exec (.peerLoss n) s = .next s) ∧
    (Runs s (.sweep lost) →
        ∃ (book : Book) (events : EventBlock),
          exec (.sweep .finish) s = .next (checkedReturn { unitDone s with
            book := book
            peers := s.peers.filter fun p => decide (p.silence < s.settings.silenceLimit)
            events := events }) ∧
          (∀ p : Fin 96, book.entry p =
            if (s.book.entry p).any (fun e =>
                s.peers.any fun q => q.number == e.owner && decide (s.settings.silenceLimit ≤ q.silence)) then none
            else s.book.entry p) ∧
          events.mask = s.events.mask ∧
          events.flags = (s.events.flags |||
            (if lost = true ∨ (∃ p ∈ s.peers, s.settings.silenceLimit ≤ p.silence) then eventBit .peerGone
              else 0#16)))

/-- A PLACEMENT job takes the first candidate that fits against committed plus tentative sums: CLAIMING with its entry
and its CLAIM, or WITHDRAWN with a release pending, or REFUSED_NO_ENTRY with no position free; with none that fits,
REFUSED_NO_ROOM; an AT request has one candidate. A station that is LEAVING by then applies no result (R25 to R31, R35,
R57).
That the attempt count of a first placement is 1 in LEAVING as well is the model's choice (log entry 11). -/
def Obligations.PlacementTakesTheFirstFit : Prop :=
  ∀ (s : State) (c : Chan) (tried : List Window) (rest : List Window) (fits : Window → Prop) (numbered : Channel),
    Runs s (.placement c) →
    tried ++ rest = (match (s.chan c).mode with
      | .atMode => [⟨(s.chan c).reqStart, (s.chan c).reqLen⟩]
      | .fromMode => (fromStarts (s.chan c).reqStart (s.chan c).reqLen).map fun k => ⟨k, (s.chan c).reqLen⟩) →
    (∀ w, fits w ↔ ∀ i : Fin 64, w.start ≤ i.val → i.val < w.start + w.len →
      (s.book.map.get i).committed + (s.book.map.get i).tentative + s.settings.weight.get c ≤ s.settings.budget) →
    numbered = { s.chan c with attempts := if (s.chan c).attempts = 0 then 1 else (s.chan c).attempts } →
    (∀ w ∈ tried, ¬ fits w) →
      (s.station.online = false → exec (.placement .finish) s = .next ((unitDone s).setChan c numbered)) ∧
      (s.station.online = true → rest = [] →
        exec (.placement .finish) s = .next
          (((unitDone s).setChan c { numbered with
            state := .idle, window := none, releasePending := false, reRequest := false, live := false }).writeOutcome
              c .refusedNoRoom none)) ∧
      (∀ w more, s.station.online = true → rest = w :: more → fits w →
        (s.book.add ⟨s.settings.stationNumber, c, w, s.settings.weight.get c, .claiming⟩ = none →
          exec (.placement .finish) s = .next
            (((unitDone s).setChan c { numbered with
              state := .idle, window := none, releasePending := false, reRequest := false, live := false }).writeOutcome
                c .refusedNoEntry none)) ∧
        (∀ b, s.book.add ⟨s.settings.stationNumber, c, w, s.settings.weight.get c, .claiming⟩ = some b →
          ((s.chan c).releasePending = true →
            exec (.placement .finish) s = .next
              (((unitDone s).setChan c { numbered with
                state := .idle, window := none, releasePending := false, reRequest := false
                live := false }).writeOutcome c .withdrawn none)) ∧
          ((s.chan c).releasePending = false →
            exec (.placement .finish) s = .next
              ({ unitDone s with
                book := b
                txQueue := s.txQueue ++ [(⟨.claim c w (s.settings.weight.get c), 0, false⟩ : TxItem)] }.setChan c
                { numbered with state := .claiming, window := some w }))))

/-- What waits for the Table Unit, carried out when it is free: a withdrawal frees the CLAIMING entry and ends the
channel WITHDRAWN, and finds nothing to do on a channel that has moved on; a leave's effect withdraws every PLACING and
CLAIMING channel and clears the resync set; a refill sets every mark in DESYNC, returns to JOINED with no record, and is
dropped in any other state (R17, R73, R126, R131).
That the end of a job carries this work out itself, so that these rows act only where it still waits, is the model's
choice (log entry 4). -/
def Obligations.WaitingWorkRunsWhenTheUnitIsFree : Prop :=
  ∀ s : State, s.unit.job = none →
    (∀ c : Chan, c ∈ s.unit.withdrawals →
      ((s.chan c).state ≠ .claiming → exec (.withdrawal c) s =
        .next { s with unit := { s.unit with withdrawals := s.unit.withdrawals.filter (· != c) } }) ∧
      ((s.chan c).state = .claiming → exec (.withdrawal c) s = .next
        (({ s with
            book := s.book.dropKey s.settings.stationNumber c
            unit := { s.unit with withdrawals := s.unit.withdrawals.filter (· != c) } }.setChan c
          { s.chan c with
            state := .idle, window := none, releasePending := false, reRequest := false
            live := false }).writeOutcome c .withdrawn none))) ∧
    (s.unit.leaveWaiting = true →
      ∃ t : State, exec .leaveDeferredChannelEffects s = .next t ∧
        t = { s with
          unit := { s.unit with leaveWaiting := false }
          peers := s.peers.map (fun p : Peer => { p with awaiting := false })
          channels := t.channels
          book := (List.finRange 8).foldl (fun b c =>
            if (s.chan c).state = .claiming then b.dropKey s.settings.stationNumber c else b) s.book
          events := t.events } ∧
        t.events.mask = s.events.mask ∧
        t.events.flags = (s.events.flags |||
          (if (∃ c : Chan, (s.chan c).state = .placing ∨ (s.chan c).state = .claiming) then eventBit .channelOutcome
            else 0#16)) ∧
        ∀ c : Chan,
          ((s.chan c).state = .placing ∨ (s.chan c).state = .claiming →
            t.chan c = { s.chan c with
              state := .idle, window := none, releasePending := false, reRequest := false, live := false
              outcome := .withdrawn, outcomeWindow := none, fresh := true
              rewrite := (s.chan c).rewrite || readingOutcome s.host.response c }) ∧
          ((s.chan c).state ≠ .placing → (s.chan c).state ≠ .claiming →
            t.chan c = { s.chan c with releasePending := false, reRequest := false })) ∧
    (s.unit.refillWaiting = true →
      (s.station ≠ .desync → exec .resyncRefill s = .next { s with unit := { s.unit with refillWaiting := false } }) ∧
      (s.station = .desync → s.peers ≠ [] → exec .resyncRefill s = .next { s with
        unit := { s.unit with refillWaiting := false }
        peers := s.peers.map fun p : Peer => { p with awaiting := true } }) ∧
      (s.station = .desync → s.peers = [] → exec .resyncRefill s = .next (State.raise .resyncDone { s with
        station := .joined
        unit := { s.unit with refillWaiting := false } })))

/-! ### Time: samples, slices, frames -/

/-- The comparator's levels and the supply state: a sample qualifies below the trip level in NORMAL, and at or above the
release level, one threshold step higher, in LOW (R150); the second qualifying sample in a row changes the supply state
and is handed to Shed Control, a plain one clears the history (R152, R155).
The operand is the voltage as the comparator sees it (log entry 6). -/
def Obligations.SamplesMoveTheSupplyState : Prop :=
  ∀ (s : State) (mV : Nat) (qualifying : Prop),
    (qualifying ↔
      (s.supply.state = .normal ∧ mV < 600 + 25 * s.settings.supplyThreshold) ∨
        (s.supply.state = .low ∧ 600 + 25 * (s.settings.supplyThreshold + 1) ≤ mV)) →
      (¬ qualifying → s.sample mV = { s with supply := { s.supply with history := 0 } }) ∧
      (qualifying → s.supply.history = 0 → s.sample mV = { s with supply := { s.supply with history := 1 } }) ∧
      (qualifying → s.supply.history ≠ 0 → s.supply.state = .normal →
        s.sample mV = State.shedCause true true { s with supply := { s.supply with state := .low, history := 0 } }) ∧
      (qualifying → s.supply.history ≠ 0 → s.supply.state = .low →
        s.sample mV = { s with
          supply := { s.supply with state := .normal, history := 0 }
          shed := { s.shed with resend := if s.shed.state = .shedding then 0 else s.shed.resend } })

/-- The Frame Timer's events with their sample points: the end of a slice from 0 to 62 raises the counter, evaluates every
output for the new slice and samples (R40, R67); the end of slice 63 samples, and holds with a SYNC queued in JOINED and
DESYNC, or begins the next frame in LISTENING and LEAVING (R41, R42); a hold tick samples and sees that a SYNC is queued
(R43); the free-running sampler samples (R151). -/
def Obligations.FrameTimerEventsAndTheirSamples : Prop :=
  ∀ (s u : State) (mV : Nat), u = s.sample mV →
    (s.timer.running = true → s.timer.hold = false → s.timer.slice < 63 →
      ∃ driven : Vector Bool 8,
        exec (.sliceBoundary mV) s = .next (State.sample mV { s with
          timer := { s.timer with slice := s.timer.slice + 1 }
          driven := driven }) ∧
        ∀ c : Chan, driven.get c = true ↔ MayDrive (s.chan c) (s.timer.slice + 1)) ∧
    (s.timer.running = true → s.timer.hold = false → s.timer.slice = 63 →
      (s.station.online = true → exec (.frameExpiry mV) s = .next { u with
        timer := { s.timer with hold := true }
        txQueue := if u.txQueue.any (fun i => i.body.isSync) then u.txQueue
          else ⟨.sync ((s.timer.frame + 1) % 256), 0, false⟩ :: u.txQueue }) ∧
      (s.station.online = false → exec (.frameExpiry mV) s = .next (State.frameStart { u with
        timer := { s.timer with slice := 0, frame := (s.timer.frame + 1) % 256, hold := false } }))) ∧
    (s.timer.running = true → s.timer.hold = true →
      (s.station.online = true → exec (.holdTick mV) s = .next { u with
        txQueue := if u.txQueue.any (fun i => i.body.isSync) then u.txQueue
          else ⟨.sync ((s.timer.frame + 1) % 256), 0, false⟩ :: u.txQueue }) ∧
      (s.station.online = false → exec (.holdTick mV) s = .next u)) ∧
    (s.supply.samplerRunning = true → exec (.freeRunningSamplerTick mV) s = .next u)

/-- A frame start: the sweep-pending count rises to 64 at most (R49), in JOINED and DESYNC the HELD channels that are not
shed-suspended become live (R65), every output is evaluated (R67); then in a shed the hold or the re-send count falls by
one (R156, R157) and the summary timer rises by one (R90), and in LISTENING the listen count falls by one (R139), each
with what happens where it runs out; in LEAVING nothing more happens (R48). Realignment at a good SYNC: slice 0 of the
SYNC's frame, the hold over, a queued own SYNC withdrawn, a frame start (R45); SYNC_SLIP where the SYNC came before slice
56 or did not carry the next frame number (R46); nothing with the timer stopped.
That a frame start carries the rows of its counts within itself is the model's choice (log entry 3), and so is that with a
SHED_HOLD of 1 it ends a shed that a SHED_NOW or a heard SHED has just started or restarted (log entry 28). -/
def Obligations.FrameStartsAndRealignment : Prop :=
  (∀ s : State, ∃ (chans : Vector Channel 8) (driven : Vector Bool 8),
    (∀ c : Chan, chans.get c =
      if s.station.online ∧ (s.chan c).state = .held ∧ (s.chan c).shedSuspended = false then
        { s.chan c with live := true } else s.chan c) ∧
    (∀ c : Chan, driven.get c = true ↔ MayDrive (chans.get c) s.timer.slice) ∧
    ∀ t : State, t = { s with
        timer := { s.timer with sweepPending := min 64 (s.timer.sweepPending + 1) }
        channels := chans
        driven := driven } →
      (s.station.online = true →
        (s.shed.state = .idle →
          exec .summaryTimerExpiry { t with summaryTimer := s.summaryTimer + 1 } = .next s.frameStart) ∧
        (∀ r : State, s.shed.state = .shedding → s.supply.state = .low →
          exec .shedResend { t with shed := { s.shed with resend := s.shed.resend - 1 } } = .next r →
            exec .summaryTimerExpiry { r with summaryTimer := s.summaryTimer + 1 } = .next s.frameStart) ∧
        (∀ r : State, s.shed.state = .shedding → s.supply.state = .normal →
          exec .shedHoldEnd { t with shed := { s.shed with hold := s.shed.hold - 1 } } = .next r →
            exec .summaryTimerExpiry { r with summaryTimer := s.summaryTimer + 1 } = .next s.frameStart)) ∧
      (s.station = .listening →
        exec .listenEnd { t with listenCount := s.listenCount - 1 } = .next s.frameStart) ∧
      (s.station.online = false → s.station ≠ .listening → s.frameStart = t)) ∧
  (∀ (s u : State) (f : Nat),
    u = { s with
      timer := { s.timer with slice := 0, frame := f, hold := false }
      txQueue := s.txQueue.filter fun i => i.inAttempt || !i.body.isSync } →
      (s.timer.running = false → s.realign f = s) ∧
      (s.timer.running = true → 56 ≤ s.timer.slice → f = (s.timer.frame + 1) % 256 → s.realign f = u.frameStart) ∧
      (s.timer.running = true → s.timer.slice < 56 ∨ f ≠ (s.timer.frame + 1) % 256 →
        s.realign f = (u.raise .syncSlip).frameStart))

/-- What happens where a count runs out: the summary timer at SUMMARY_INTERVAL returns to 0 and a SUMMARY is placed unless
one is present (R90); the listen count at 0 makes the station JOINED with its first SUMMARY, and a shed starts if the
supply is LOW (R140, R154); the hold count at 0 ends the shed (R158); the re-send count at 0 places a SHED and starts
again (R157). Short of it, nothing happens.
That these rows named by themselves act only where the count stands at its end is the model's choice (log entries 2, 3). -/
def Obligations.CountsThatRunOut : Prop :=
  ∀ s : State,
    (exec .summaryTimerExpiry s = .next
      (if s.station.online = true ∧ s.settings.summaryInterval ≤ s.summaryTimer then
        { s with
          summaryTimer := 0
          txQueue := if s.txQueue.any (fun i => i.body.isSummary) then s.txQueue else s.txQueue ++ [⟨.summary, 0, false⟩] }
      else s)) ∧
    (∀ u : State, s.station = .listening → s.listenCount = 0 →
      u = State.raise .joinDone { s with
        station := .joined
        summaryTimer := 0
        txQueue := if s.txQueue.any (fun i => i.body.isSummary) then s.txQueue else s.txQueue ++ [⟨.summary, 0, false⟩] } →
        (s.supply.state = .normal → exec .listenEnd s = .next u) ∧
        (s.supply.state = .low → exec .listenEnd s = .next (u.shedCause true true))) ∧
    (s.station ≠ .listening ∨ s.listenCount ≠ 0 → exec .listenEnd s = .next s) ∧
    (s.shed.state = .shedding → s.shed.hold = 0 →
      ∃ chans : Vector Channel 8,
        exec .shedHoldEnd s = .next (State.raise .shedEnd { s with shed := ⟨.idle, 0, 0⟩, channels := chans }) ∧
        ∀ c : Chan, chans.get c = { s.chan c with shedSuspended := false }) ∧
    (s.shed.state = .idle ∨ s.shed.hold ≠ 0 → exec .shedHoldEnd s = .next s) ∧
    (s.shed.state = .shedding → s.supply.state = .low → s.shed.resend = 0 → s.station.online = true →
      exec .shedResend s = .next { s with
        shed := { s.shed with resend := max 1 (s.settings.shedHold / 2) }
        txQueue := placeShed s.txQueue }) ∧
    (s.shed.state = .idle ∨ s.supply.state = .normal ∨ s.shed.resend ≠ 0 → exec .shedResend s = .next s)

/-! ### The phase line -/

/-- A station with a notice on offer begins an attempt with the first item in queue order, at its own gap of 10 T or at a
start edge after 9 T (R83, R100, R101); until an own start pulls the line low the recessive period goes on counting
(R100). Any other receiving station decodes a notice from a start edge, and takes an earlier edge for noise. After a
malformed header, whether an edge from 9 T to 10 T is a start is free: R79 and R100 differ (log entry 10). A SUMMARY lists
the HELD and RELEASING channels as they stand at that moment; every other payload is as placed (R78).
That the edge of another station's start makes a station with a notice join is the model's form of R101 (log entry 9). -/
def Obligations.StartEdgesBeginNotices : Prop :=
  (∀ (s : State) (i : TxItem) (rest : List TxItem) (elapsed gap : Nat),
    s.line.phase = .idle ∨ s.line.phase = .skipping → s.txQueue = i :: rest → s.station.sends = true →
    gap = s.line.gapCount + elapsed →
      ∀ begun : Nat → State, (∀ g, begun g = { s with
          txQueue := { i with inAttempt := true } :: rest
          line := ⟨.sending (s.noticeOf i.body), g, 0⟩ }) →
        (40 ≤ gap → exec (.attemptStart .own elapsed) s = .next (begun gap)) ∧
        (gap < 40 → exec (.attemptStart .own elapsed) s = .next s) ∧
        (40 ≤ gap ∨ (36 ≤ gap ∧ s.line.phase = .idle) →
          exec (.attemptStart .joining elapsed) s = .next (begun 0) ∧ exec (.startEdge elapsed) s = .next (begun 0)) ∧
        (gap < 36 → exec (.attemptStart .joining elapsed) s = .next s) ∧
        (36 ≤ gap → gap < 40 → s.line.phase = .skipping →
          exec (.attemptStart .joining elapsed) s =
            .next (if Config.malformedHeaderWaits = true then s else begun 0) ∧
          exec (.startEdge elapsed) s = .next (if Config.malformedHeaderWaits = true then
            { s with line := ⟨.skipping, 0, 0⟩ } else begun 0))) ∧
  (∀ (s : State) (elapsed gap : Nat), s.line.phase = .idle ∨ s.line.phase = .skipping → s.station.running = true →
    gap = s.line.gapCount + elapsed →
    (gap < 36 → exec (.startEdge elapsed) s = .next { s with line := ⟨s.line.phase, 0, 0⟩ }) ∧
    (s.txQueue = [] ∨ s.station.sends = false →
      (40 ≤ gap ∨ (36 ≤ gap ∧ s.line.phase = .idle) →
        exec (.startEdge elapsed) s = .next { s with line := ⟨.decoding, 0, 0⟩ }) ∧
      (36 ≤ gap → gap < 40 → s.line.phase = .skipping →
        exec (.startEdge elapsed) s = .next { s with
          line := ⟨if Config.malformedHeaderWaits = true then .skipping else .decoding, 0, 0⟩ }))) ∧
  (∀ s : State,
    (∀ f, s.noticeOf (.sync f) = .sync f) ∧ s.noticeOf .shed = .shed ∧ (∀ c, s.noticeOf (.release c) = .release c) ∧
    (∀ c w wt, s.noticeOf (.claim c w wt) = .claim c w wt) ∧ s.noticeOf .leave = .leave ∧
    ∃ ls : List Listed, s.noticeOf .summary = .summary s.settings.budget ls ∧
      ls.Pairwise (fun k l => k.chan < l.chan) ∧
      ∀ l, l ∈ ls ↔ ((s.chan l.chan).state = .held ∨ (s.chan l.chan).state = .releasing) ∧
        (s.chan l.chan).window = some l.win ∧ l.weight = s.settings.weight.get l.chan)

/-- How an undelivered attempt leaves its item, the rows of Table 5-3 (R85): a CLAIM with a release pending is removed and
its channel withdrawn when the Table Unit is free (R17, R59); in LEAVING a CLAIM, RELEASE or SUMMARY is removed (R88); a
broken SYNC is removed, and a new one placed or, in LEAVING, the hold ended (R43, R44); a fourth broken attempt abandons
the notice, and a CLAIM, RELEASE or LEAVE is placed again as a new one (R87); otherwise the item stays at its place. -/
def Obligations.AttemptsAreSettledByTheTable : Prop :=
  ∀ (s : State) (before after : List TxItem) (i : TxItem),
    s.txQueue = before ++ i :: after → i.inAttempt = true → (∀ j ∈ before ++ after, j.inAttempt = false) →
      ∀ removed : State, removed = { s with txQueue := before ++ after } →
        (∀ (c : Chan) (w : Window) (wt k : Nat), i.body = .claim c w wt → (s.chan c).releasePending = true →
          s.settleUndelivered i.body k = removed.askWithdrawal c ∧ s.settleBroken = removed.askWithdrawal c ∧
          (s.unit.job ≠ none → removed.askWithdrawal c =
            { removed with unit := { s.unit with withdrawals := s.unit.withdrawals ++ [c] } }) ∧
          (s.unit.job = none → (s.chan c).state ≠ .claiming → removed.askWithdrawal c = removed) ∧
          (s.unit.job = none → (s.chan c).state = .claiming → removed.askWithdrawal c =
            ({ removed with book := s.book.dropKey s.settings.stationNumber c }.setChan c { s.chan c with
              state := .idle, window := none, releasePending := false, reRequest := false
              live := false }).writeOutcome c .withdrawn none)) ∧
        ((∀ c w wt, i.body = .claim c w wt → (s.chan c).releasePending = false) →
          (s.station = .leaving → i.body.endsAtLeave = true →
            (∀ k, s.settleUndelivered i.body k = removed) ∧ s.settleBroken = removed) ∧
          (s.station ≠ .leaving ∨ i.body.endsAtLeave = false →
            (∀ k, s.settleUndelivered i.body k =
              { s with txQueue := before ++ { i with count := k, inAttempt := false } :: after }) ∧
            (i.body.isSync = false → i.count < 3 → s.settleBroken =
              { s with txQueue := before ++ { i with count := i.count + 1, inAttempt := false } :: after }) ∧
            (i.body.isSync = false → 3 ≤ i.count →
              (∀ c w wt, i.body = .claim c w wt → s.settleBroken =
                if (s.chan c).state = .claiming ∧ s.station.online then
                  { s with txQueue := before ++ after ++ [⟨.claim c w wt, 0, false⟩] } else removed) ∧
              (∀ c, i.body = .release c → s.settleBroken =
                if (s.chan c).state = .releasing ∧ s.station.online then
                  { s with txQueue := before ++ after ++ [⟨.release c, 0, false⟩] } else removed) ∧
              (i.body = .leave → (∀ j ∈ before ++ after, j.body.isLeave = false) →
                s.settleBroken = { s with txQueue := before ++ after ++ [⟨.leave, 0, false⟩] }) ∧
              (i.body = .summary ∨ i.body = .shed → s.settleBroken = removed)))) ∧
        (i.body.isSync = true → (∀ j ∈ before ++ after, j.body.isSync = false) →
          (s.timer.hold = false → s.settleBroken = removed) ∧
          (s.timer.hold = true → s.station.online = true → s.settleBroken =
            { s with txQueue := ⟨.sync ((s.timer.frame + 1) % 256), 0, false⟩ :: (before ++ after) }) ∧
          (s.timer.hold = true → s.station = .leaving → s.settleBroken = State.frameStart { removed with
            timer := { s.timer with slice := 0, frame := (s.timer.frame + 1) % 256, hold := false } }))

/-- The sender's monitor (R102) and the breaks (R109): a 1 sent and dominant read in a kind or sender cell loses the
arbitration, the item keeps its count and the station receives the winner (R103); a 0 driven and recessive read ends the
attempt broken, with the driver released (R105); more than 2 T dominant up to the passing of the echo cell, or recessive
before it, breaks the notice: a receiver discards it, a sender's attempt ends broken, and the period that broke it counts
on toward the gap or the line fault (R100, R110). That the station goes on decoding after a driver fault, or is idle with
its gap running on where the line has not been low, is the model's reading (log entry 8). -/
def Obligations.MonitorAndBreaksEndAttempts : Prop :=
  (∀ (s : State) (n : Notice) (i : TxItem), s.line.phase = .sending n → s.txQueue.find? (fun j => j.inAttempt) = some i →
    (∀ cell, 2 ≤ cell → cell ≤ 9 → (n.cells s.settings.stationNumber)[cell - 2]? = some true →
      exec (.lostArbitration cell) s =
        .next (State.settleUndelivered i.body i.count { s with line := ⟨.decoding, 0, 2⟩ })) ∧
    (∀ cell q, cell = 1 ∨ (2 ≤ cell ∧ (n.cells s.settings.stationNumber)[cell - 2]? = some false) →
      exec (.driverFault ⟨cell, some q⟩) s = .next (State.settleBroken { s with line := ⟨.decoding, q, 0⟩ })) ∧
    exec (.driverFault ⟨1, none⟩) s =
      .next (State.settleBroken { s with line := ⟨.idle, s.line.gapCount + 2, 0⟩ }) ∧
    exec (.noticeBroken .dominant) s = .next (State.settleBroken { s with line := ⟨.idle, 0, 8⟩ }) ∧
    exec (.noticeBroken .recessive) s = .next (State.settleBroken { s with line := ⟨.idle, 8, 0⟩ })) ∧
  (∀ (s : State) (n : Notice) (r : Bool), s.line.phase = .ownEcho n r →
    exec (.noticeBroken .dominant) s = .next (State.settleBroken { s with line := ⟨.idle, 0, 8⟩ }) ∧
    exec (.noticeBroken .recessive) s = .next s) ∧
  (∀ s : State, s.line.phase = .decoding ∨ (∃ v, s.line.phase = .judged v) →
    exec (.noticeBroken .dominant) s = .next { s with line := ⟨.idle, 0, 8⟩ } ∧
    exec (.noticeBroken .recessive) s = .next { s with line := ⟨.idle, 8, 0⟩ })

/-- The judgment of a heard notice by the start of its echo cell, row by row (R92, Table 5-5): broken and malformed headers
end the decoding, a CRC failure and malformed fields are no good notice, a good one gets a place if one is free and is
echoed by this station exactly then (R107). The period the line is in goes on counting toward the gap or the line fault,
after a break as well (R100, R109, R110). The own number is the halt's statement.
The step takes the decoded cells and the line's level and its time: too few cells are the broken row, once that time is 2 T,
and those past the last are left out (log entry 18). -/
def Obligations.HeardNoticesAreJudgedRowByRow : Prop :=
  ∀ (s : State) (run : LineRun) (gap dom : Nat), s.station.running = true → s.line.phase = .decoding →
    (run = .recessive gap ∧ dom = 0) ∨ (run = .dominant dom ∧ gap = 0) →
    (∀ (n : Notice) (sender : Nat) (k : Nat), HasCells n → 1 ≤ sender → sender ≤ 32 →
      k < (n.cells sender).length →
        (8 ≤ gap + dom →
          exec (.heardNoticeJudged ⟨(n.cells sender).take k, run⟩) s = .next { s with line := ⟨.idle, gap, dom⟩ }) ∧
        (gap + dom < 8 → exec (.heardNoticeJudged ⟨(n.cells sender).take k, run⟩) s = .next s)) ∧
    (∀ cells : List Bool,
      (3 ≤ cells.length ∧ 6 ≤ field 0 3 cells) ∨ (24 ≤ cells.length ∧ field 0 3 cells = 5 ∧ 8 < field 20 4 cells) →
        exec (.heardNoticeJudged ⟨cells, run⟩) s = .next { s with line := ⟨.skipping, gap, dom⟩ }) ∧
    (∀ (n : Notice) (sender : Nat) (crc rest : List Bool), HasCells n → 1 ≤ sender → sender ≤ 32 → crc.length = 16 →
      ∃ t : State, exec (.heardNoticeJudged ⟨n.coveredCells sender ++ crc ++ rest, run⟩) s = .next t ∧
        (crc ≠ crcCells (n.coveredCells sender) →
          t = { s with line := ⟨.judged .crcFailure, gap, dom⟩ } ∧ t.driverActive = false) ∧
        (crc = crcCells (n.coveredCells sender) → n.wellFormed = false →
          t = { s with line := ⟨.judged .malformed, gap, dom⟩ } ∧ t.driverActive = false) ∧
        (crc = crcCells (n.coveredCells sender) → n.wellFormed = true → sender ≠ s.settings.stationNumber →
          (4 ≤ s.rxQueue.length →
            t = { s with line := ⟨.judged (.overrun ⟨false, sender, n⟩), gap, dom⟩ } ∧ t.driverActive = false) ∧
          (s.rxQueue.length < 4 →
            t = { s with line := ⟨.judged (.accepted ⟨false, sender, n⟩), gap, dom⟩ } ∧ t.driverActive = true)))

/-- An own attempt at its echo cell and at its completion (R85, R86, R93, R94): a receive place is reserved if one is free;
delivered when echoed, a SYNC, no peer known, or at the fourth attempt with WITNESS_FAIL, it leaves the queue and joins the
receive queue in its place, or is lost to an overrun and placed again; else it is settled undelivered. An own SYNC realigns
at its completion (R45), in either order with the rest (R139). It was echoed where the line was dominant at T/2, and the
gap counts from the end of the cell's dominant period, which the completion never comes before (R108).
The order is an operand of the step (log entry 15), and the dominant period one in quarter bit times, rounded down (log
entry 7). -/
def Obligations.OwnNoticesCompleteByTheTable : Prop :=
  (∀ (s : State) (n : Notice), s.line.phase = .sending n →
    exec .ownEchoCell s = .next { s with line := ⟨.ownEcho n (decide (s.rxQueue.length < 4)), 0, 0⟩ }) ∧
  ∀ (s : State) (n : Notice) (place echoed : Bool) (dom : Nat) (first : TakenFirst) (i : TxItem),
    1 ≤ dom → dom ≤ 8 → echoed = decide (2 ≤ dom) → s.line.phase = .ownEcho n place → s.txQueue.find? (fun j => j.inAttempt) = some i →
      (echoed = false → i.body.isSync = false → s.peers ≠ [] → i.count < 3 →
        exec (.noticeComplete dom first) s =
          .next (State.settleUndelivered i.body (i.count + 1) { s with line := ⟨.idle, 4 - dom, 0⟩ })) ∧
      (echoed = true ∨ i.body.isSync = true ∨ s.peers = [] ∨ 3 ≤ i.count →
        ∀ sent : State,
          sent = (if echoed = false ∧ i.body.isSync = false ∧ s.peers ≠ [] then State.raise .witnessFail else id)
            { s with
              line := ⟨.idle, 4 - dom, 0⟩
              txQueue := s.txQueue.filter fun j => !j.inAttempt } →
          ((∀ f, n ≠ .sync f) →
            (place = true → exec (.noticeComplete dom first) s =
              .next { sent with rxQueue := s.rxQueue ++ [⟨true, s.settings.stationNumber, n⟩] }) ∧
            (place = false → exec (.noticeComplete dom first) s =
              .next ((sent.raise .rxOverrun).tableDoubt.placeAgain i.body))) ∧
          (∀ f, n = .sync f →
            (place = true → exec (.noticeComplete dom first) s =
              .next (State.realign f { sent with rxQueue := s.rxQueue ++ [⟨true, s.settings.stationNumber, n⟩] })) ∧
            (place = false → exec (.noticeComplete dom .cause) s =
              .next (State.realign f ((sent.raise .rxOverrun).tableDoubt.placeAgain i.body))) ∧
            (place = false → exec (.noticeComplete dom .frameStart) s =
              .next (((sent.realign f).raise .rxOverrun).tableDoubt.placeAgain i.body))))

/-- A heard notice at its completion (R92, R94, R95, R108): an accepted one joins the receive queue; one with no place is
lost with RX_OVERRUN; a SYNC realigns and a SHED is a cause of shedding in both cases (R45, R154); a CRC failure and an
overrun put the table in doubt: DESYNC with a refill, made at once or at the end of the running job (R125, R126), the
listen count set again in LISTENING (R139), nothing in LEAVING; a malformed notice changes nothing but the line.
A station that echoes holds the line dominant for 3/4 T at least (R107). The order of the two effects of a completion is an
operand of the step (log entry 15), and the dominant period one in quarter bit times, rounded down (log entry 7). -/
def Obligations.HeardNoticesCompleteByTheirJudgment : Prop :=
  (∀ (s u : State) (dom : Nat) (first : TakenFirst) (item : RxItem), 1 ≤ dom → dom ≤ 8 →
    (s.line.phase = .judged (.accepted item) → u = { s with line := ⟨.idle, 4 - max 3 dom, 0⟩ } →
      (∀ f, item.notice = .sync f → exec (.noticeComplete dom first) s =
        .next (State.realign f { u with rxQueue := s.rxQueue ++ [item] })) ∧
      (item.notice = .shed → exec (.noticeComplete dom first) s =
        .next (State.shedCause false false { u with rxQueue := s.rxQueue ++ [item] })) ∧
      ((∀ f, item.notice ≠ .sync f) → item.notice ≠ .shed → exec (.noticeComplete dom first) s =
        .next { u with rxQueue := s.rxQueue ++ [item] })) ∧
    (s.line.phase = .judged (.overrun item) → u = { s with line := ⟨.idle, 4 - dom, 0⟩ } →
      (∀ f, item.notice = .sync f →
        exec (.noticeComplete dom .cause) s = .next (State.realign f (u.raise .rxOverrun).tableDoubt) ∧
        exec (.noticeComplete dom .frameStart) s = .next ((u.realign f).raise .rxOverrun).tableDoubt) ∧
      (item.notice = .shed →
        exec (.noticeComplete dom .cause) s = .next ((u.raise .rxOverrun).tableDoubt.shedCause false false) ∧
        exec (.noticeComplete dom .frameStart) s = .next ((u.shedCause false false).raise .rxOverrun).tableDoubt) ∧
      ((∀ f, item.notice ≠ .sync f) → item.notice ≠ .shed →
        exec (.noticeComplete dom first) s = .next (u.raise .rxOverrun).tableDoubt)) ∧
    (s.line.phase = .judged .crcFailure → exec (.noticeComplete dom first) s =
      .next (State.tableDoubt { s with line := ⟨.idle, 4 - dom, 0⟩ })) ∧
    (s.line.phase = .judged .malformed → exec (.noticeComplete dom first) s =
      .next { s with line := ⟨.idle, 4 - dom, 0⟩ })) ∧
  (∀ s : State,
    (s.station.online = true → s.unit.job = none → s.peers ≠ [] → s.tableDoubt = State.raise .desync { s with
      station := .desync
      peers := s.peers.map fun p : Peer => { p with awaiting := true }
      unit := { s.unit with refillWaiting := false } }) ∧
    (s.station.online = true → s.unit.job = none → s.peers = [] →
      s.tableDoubt = State.raise .resyncDone (State.raise .desync { s with
        station := .joined
        unit := { s.unit with refillWaiting := false } })) ∧
    (s.station.online = true → s.unit.job ≠ none → s.tableDoubt = State.raise .desync { s with
      station := .desync
      unit := { s.unit with refillWaiting := true } }) ∧
    (s.station = .listening → s.tableDoubt = { s with listenCount := s.settings.silenceLimit }) ∧
    (s.station.online = false → s.station ≠ .listening → s.tableDoubt = s))

/-- Entry to HALTED, by the line held dominant for 128 T, a station number conflict in an own attempt, or a good notice
heard with the own number (R92, R104, R110, R145): the line, queues, tables, timers and outputs go, every channel that is
not IDLE is dropped, HALTED is raised. Short of 128 T a dominant period only runs on, and one that began after the line
returned recessive is counted from its own edge. A command that waits at the port is in the next statement.
That the fresh and rewrite marks stay is read from R72 (log entry 12); that the gap count stands at 0 in a dominant period
is the model's choice (log entry 19). -/
def Obligations.HaltsDropEverything : Prop :=
  (∀ (s : State) (i : Instr) (cause : HaltCause), Halts s i cause → s.host.waitingCommand = none →
    ∃ (chans : Vector Channel 8) (events : EventBlock),
      exec i s = .next { offTheLine s with
        station := .halted, haltCause := cause, channels := chans, events := events } ∧
      (∀ c : Chan, chans.get c =
        if (s.chan c).state = .idle then unmarked (s.chan c)
        else droppedRecord (readingOutcome s.host.response c) (s.chan c)) ∧
      events.mask = s.events.mask ∧
      events.flags = (s.events.flags ||| eventBit .halted |||
        (if (∃ c : Chan, (s.chan c).state ≠ .idle) then eventBit .channelOutcome else 0#16))) ∧
  (∀ (s : State) (q : Nat), s.station.running = true → q < 512 →
    exec (.lineFault (.anew q)) s = .next { s with line := ⟨s.line.phase, 0, q⟩ } ∧
    ∀ elapsed, q = s.line.faultTimer + elapsed →
      exec (.lineFault (.on elapsed)) s = .next { s with line := ⟨s.line.phase, 0, q⟩ })

/-- A command that waits at the port, or is held, when the station enters HALTED, or UNJOINED at the completion of its
leave: the entry is that with no command there; a waiting REQUEST or RELEASE is answered, WRONG_STATE where its job was
running, else by the first failing check in the state entered, a RELEASE that set its mark with OK (R56, R173); a held one
is cleared with its mark, and a latched command is taken at that moment (R169); a table read, held or not, goes on waiting
for a job, which reports the tables as they are then (R174).
That a RELEASE whose job was running is answered as a REQUEST is read from R173 (log entry 23). -/
def Obligations.WaitingCommandsMeetAHaltOrALeave : Prop :=
  ∀ (s u : State) (i : Instr), (∃ cause, Halts s i cause) ∨ CompletesLeave s i →
    exec i { s with host := { s.host with current := none, held := none } } = .next u →
      (s.host.waitingCommand = none → exec i s = .next { u with host := s.host }) ∧
      (∀ tk, s.host.waitingCommand = some tk → tk.cmd.answeredAtEntry = false →
        exec i s = .next { u with host := s.host }) ∧
      (∀ (c m st l : Byte) (b : Bool), s.host.held = none → s.host.response = none →
        s.host.current = some ⟨.request c m st l, b⟩ →
          exec i s = .next { u with host := { s.host with
            phase := .waiting
            response := some ⟨.plain, [],
              if s.hostJobRuns then .wrongState else if badRequest c m st l then .badParameter
              else if s.settings.weight.get (chanOf c.toNat) = 0 then .channelDisabled else .wrongState⟩ } }) ∧
      (∀ (c : Byte) (b : Bool), s.host.held = none → s.host.response = none →
        s.host.current = some ⟨.release c, b⟩ →
          exec i s = .next { u with host := { s.host with
            phase := .waiting
            response := some ⟨.plain, [],
              if s.hostJobRuns then .wrongState else if 7 < c.toNat then .badParameter
              else if b then .ok else .wrongState⟩ } }) ∧
      (∀ tk, s.host.held = some tk → tk.cmd.answeredAtEntry = true →
        (s.host.current = none ∨ s.host.response ≠ none →
          exec i s = .next { u with host := { s.host with held := none } }) ∧
        (∀ cmd b, s.host.current = some ⟨cmd, b⟩ → s.host.response = none →
          exec i s = exec (commandStep cmd) { u with host := { s.host with held := none, phase := .command } }))

/-- A step named where its conditions do not hold does not occur: the state stays as it is. The manual gives no such case;
that it stays is the model's choice (log entry 2). -/
def Obligations.StepsThatCannotOccurChangeNothing : Prop :=
  ∀ s : State,
    (s.timer.running = false → ∀ mV, exec (.sliceBoundary mV) s = .next s ∧ exec (.frameExpiry mV) s = .next s ∧
      exec (.holdTick mV) s = .next s) ∧
    (s.timer.hold = true → ∀ mV, exec (.sliceBoundary mV) s = .next s ∧ exec (.frameExpiry mV) s = .next s) ∧
    (s.timer.hold = false → ∀ mV, exec (.holdTick mV) s = .next s) ∧
    (s.supply.samplerRunning = false → ∀ mV, exec (.freeRunningSamplerTick mV) s = .next s) ∧
    (s.line.phase ≠ .idle → s.line.phase ≠ .skipping → ∀ k n, exec (.attemptStart k n) s = .next s ∧ exec (.startEdge n) s = .next s) ∧
    (s.station.running = false → ∀ n held heard, exec (.startEdge n) s = .next s ∧ exec (.lineFault held) s = .next s ∧
      exec (.heardNoticeJudged heard) s = .next s) ∧
    ((∀ n, s.line.phase ≠ .sending n) → ∀ cell found, exec (.lostArbitration cell) s = .next s ∧
      exec (.driverFault found) s = .next s ∧ exec (.stationConflict cell) s = .next s ∧
      exec .ownEchoCell s = .next s) ∧
    (s.line.phase = .idle ∨ s.line.phase = .skipping → ∀ k, exec (.noticeBroken k) s = .next s) ∧
    ((∀ n r, s.line.phase ≠ .ownEcho n r) → (∀ v, s.line.phase ≠ .judged v) → ∀ dom f,
      exec (.noticeComplete dom f) s = .next s) ∧
    (∀ dom f, 8 < dom → exec (.noticeComplete dom f) s = .next s) ∧
    (s.line.phase ≠ .decoding → ∀ heard, exec (.heardNoticeJudged heard) s = .next s) ∧
    (s.host.response = none → exec .flagByteShifted s = .next s ∧ exec .outcomeByteShifted s = .next s) ∧
    (s.host.csLow = true → exec .transactionOpen s = .next s) ∧
    (s.host.csLow = false → exec .transactionClose s = .next s) ∧
    (s.resets.pin = false → exec .pinResetEnd s = .next s) ∧
    (s.resets.power = false → exec .powerOnResetEnd s = .next s) ∧
    (s.unit.job = none → exec (.evaluate .finish) s = .next s ∧ exec (.sweep .finish) s = .next s ∧
      exec (.hostJob .finish) s = .next s ∧ exec (.placement .finish) s = .next s ∧ ∀ n, exec (.peerLoss n) s = .next s) ∧
    (s.unit.job ≠ none → (∀ c, exec (.withdrawal c) s = .next s) ∧ exec .leaveDeferredChannelEffects s = .next s ∧
      exec .resyncRefill s = .next s)
end

