-- ==== Sys2Proof/Laws/State.lean ====
section
/-! SUPPORT. What each named update of the state leaves alone: one lemma per field per update. A proof about a step
cites these and does not unfold the update. -/

namespace Sys2Proof.Machine

variable (s : State)

/-! `State.raiseBits` changes `events` alone. -/

@[simp] theorem State.raiseBits_station (bits : BitVec 16) : (s.raiseBits bits).station = s.station := rfl
@[simp] theorem State.raiseBits_haltCause (bits : BitVec 16) : (s.raiseBits bits).haltCause = s.haltCause := rfl
@[simp] theorem State.raiseBits_listenCount (bits : BitVec 16) : (s.raiseBits bits).listenCount = s.listenCount := rfl
@[simp] theorem State.raiseBits_settings (bits : BitVec 16) : (s.raiseBits bits).settings = s.settings := rfl
@[simp] theorem State.raiseBits_line (bits : BitVec 16) : (s.raiseBits bits).line = s.line := rfl
@[simp] theorem State.raiseBits_txQueue (bits : BitVec 16) : (s.raiseBits bits).txQueue = s.txQueue := rfl
@[simp] theorem State.raiseBits_summaryTimer (bits : BitVec 16) : (s.raiseBits bits).summaryTimer = s.summaryTimer := rfl
@[simp] theorem State.raiseBits_rxQueue (bits : BitVec 16) : (s.raiseBits bits).rxQueue = s.rxQueue := rfl
@[simp] theorem State.raiseBits_timer (bits : BitVec 16) : (s.raiseBits bits).timer = s.timer := rfl
@[simp] theorem State.raiseBits_book (bits : BitVec 16) : (s.raiseBits bits).book = s.book := rfl
@[simp] theorem State.raiseBits_peers (bits : BitVec 16) : (s.raiseBits bits).peers = s.peers := rfl
@[simp] theorem State.raiseBits_unit (bits : BitVec 16) : (s.raiseBits bits).unit = s.unit := rfl
@[simp] theorem State.raiseBits_channels (bits : BitVec 16) : (s.raiseBits bits).channels = s.channels := rfl
@[simp] theorem State.raiseBits_grants (bits : BitVec 16) : (s.raiseBits bits).grants = s.grants := rfl
@[simp] theorem State.raiseBits_driven (bits : BitVec 16) : (s.raiseBits bits).driven = s.driven := rfl
@[simp] theorem State.raiseBits_supply (bits : BitVec 16) : (s.raiseBits bits).supply = s.supply := rfl
@[simp] theorem State.raiseBits_shed (bits : BitVec 16) : (s.raiseBits bits).shed = s.shed := rfl
@[simp] theorem State.raiseBits_host (bits : BitVec 16) : (s.raiseBits bits).host = s.host := rfl
@[simp] theorem State.raiseBits_serial (bits : BitVec 16) : (s.raiseBits bits).serial = s.serial := rfl
@[simp] theorem State.raiseBits_resets (bits : BitVec 16) : (s.raiseBits bits).resets = s.resets := rfl
@[simp] theorem State.raiseBits_pending (bits : BitVec 16) : (s.raiseBits bits).pending = s.pending := rfl

/-! `State.raise` changes `events` alone. -/

@[simp] theorem State.raise_station (e : Event) : (s.raise e).station = s.station := rfl
@[simp] theorem State.raise_haltCause (e : Event) : (s.raise e).haltCause = s.haltCause := rfl
@[simp] theorem State.raise_listenCount (e : Event) : (s.raise e).listenCount = s.listenCount := rfl
@[simp] theorem State.raise_settings (e : Event) : (s.raise e).settings = s.settings := rfl
@[simp] theorem State.raise_line (e : Event) : (s.raise e).line = s.line := rfl
@[simp] theorem State.raise_txQueue (e : Event) : (s.raise e).txQueue = s.txQueue := rfl
@[simp] theorem State.raise_summaryTimer (e : Event) : (s.raise e).summaryTimer = s.summaryTimer := rfl
@[simp] theorem State.raise_rxQueue (e : Event) : (s.raise e).rxQueue = s.rxQueue := rfl
@[simp] theorem State.raise_timer (e : Event) : (s.raise e).timer = s.timer := rfl
@[simp] theorem State.raise_book (e : Event) : (s.raise e).book = s.book := rfl
@[simp] theorem State.raise_peers (e : Event) : (s.raise e).peers = s.peers := rfl
@[simp] theorem State.raise_unit (e : Event) : (s.raise e).unit = s.unit := rfl
@[simp] theorem State.raise_channels (e : Event) : (s.raise e).channels = s.channels := rfl
@[simp] theorem State.raise_grants (e : Event) : (s.raise e).grants = s.grants := rfl
@[simp] theorem State.raise_driven (e : Event) : (s.raise e).driven = s.driven := rfl
@[simp] theorem State.raise_supply (e : Event) : (s.raise e).supply = s.supply := rfl
@[simp] theorem State.raise_shed (e : Event) : (s.raise e).shed = s.shed := rfl
@[simp] theorem State.raise_host (e : Event) : (s.raise e).host = s.host := rfl
@[simp] theorem State.raise_serial (e : Event) : (s.raise e).serial = s.serial := rfl
@[simp] theorem State.raise_resets (e : Event) : (s.raise e).resets = s.resets := rfl
@[simp] theorem State.raise_pending (e : Event) : (s.raise e).pending = s.pending := rfl

/-! `State.setChan` changes `channels` alone. -/

@[simp] theorem State.setChan_station (c : Chan) (ch : Channel) : (s.setChan c ch).station = s.station := rfl
@[simp] theorem State.setChan_haltCause (c : Chan) (ch : Channel) : (s.setChan c ch).haltCause = s.haltCause := rfl
@[simp] theorem State.setChan_listenCount (c : Chan) (ch : Channel) : (s.setChan c ch).listenCount = s.listenCount := rfl
@[simp] theorem State.setChan_settings (c : Chan) (ch : Channel) : (s.setChan c ch).settings = s.settings := rfl
@[simp] theorem State.setChan_line (c : Chan) (ch : Channel) : (s.setChan c ch).line = s.line := rfl
@[simp] theorem State.setChan_txQueue (c : Chan) (ch : Channel) : (s.setChan c ch).txQueue = s.txQueue := rfl
@[simp] theorem State.setChan_summaryTimer (c : Chan) (ch : Channel) : (s.setChan c ch).summaryTimer = s.summaryTimer := rfl
@[simp] theorem State.setChan_rxQueue (c : Chan) (ch : Channel) : (s.setChan c ch).rxQueue = s.rxQueue := rfl
@[simp] theorem State.setChan_timer (c : Chan) (ch : Channel) : (s.setChan c ch).timer = s.timer := rfl
@[simp] theorem State.setChan_book (c : Chan) (ch : Channel) : (s.setChan c ch).book = s.book := rfl
@[simp] theorem State.setChan_peers (c : Chan) (ch : Channel) : (s.setChan c ch).peers = s.peers := rfl
@[simp] theorem State.setChan_unit (c : Chan) (ch : Channel) : (s.setChan c ch).unit = s.unit := rfl
@[simp] theorem State.setChan_grants (c : Chan) (ch : Channel) : (s.setChan c ch).grants = s.grants := rfl
@[simp] theorem State.setChan_driven (c : Chan) (ch : Channel) : (s.setChan c ch).driven = s.driven := rfl
@[simp] theorem State.setChan_supply (c : Chan) (ch : Channel) : (s.setChan c ch).supply = s.supply := rfl
@[simp] theorem State.setChan_shed (c : Chan) (ch : Channel) : (s.setChan c ch).shed = s.shed := rfl
@[simp] theorem State.setChan_host (c : Chan) (ch : Channel) : (s.setChan c ch).host = s.host := rfl
@[simp] theorem State.setChan_serial (c : Chan) (ch : Channel) : (s.setChan c ch).serial = s.serial := rfl
@[simp] theorem State.setChan_events (c : Chan) (ch : Channel) : (s.setChan c ch).events = s.events := rfl
@[simp] theorem State.setChan_resets (c : Chan) (ch : Channel) : (s.setChan c ch).resets = s.resets := rfl
@[simp] theorem State.setChan_pending (c : Chan) (ch : Channel) : (s.setChan c ch).pending = s.pending := rfl

/-! `State.modChan` changes `channels` alone. -/

@[simp] theorem State.modChan_station (c : Chan) (f : Channel → Channel) : (s.modChan c f).station = s.station := rfl
@[simp] theorem State.modChan_haltCause (c : Chan) (f : Channel → Channel) : (s.modChan c f).haltCause = s.haltCause := rfl
@[simp] theorem State.modChan_listenCount (c : Chan) (f : Channel → Channel) : (s.modChan c f).listenCount = s.listenCount := rfl
@[simp] theorem State.modChan_settings (c : Chan) (f : Channel → Channel) : (s.modChan c f).settings = s.settings := rfl
@[simp] theorem State.modChan_line (c : Chan) (f : Channel → Channel) : (s.modChan c f).line = s.line := rfl
@[simp] theorem State.modChan_txQueue (c : Chan) (f : Channel → Channel) : (s.modChan c f).txQueue = s.txQueue := rfl
@[simp] theorem State.modChan_summaryTimer (c : Chan) (f : Channel → Channel) : (s.modChan c f).summaryTimer = s.summaryTimer := rfl
@[simp] theorem State.modChan_rxQueue (c : Chan) (f : Channel → Channel) : (s.modChan c f).rxQueue = s.rxQueue := rfl
@[simp] theorem State.modChan_timer (c : Chan) (f : Channel → Channel) : (s.modChan c f).timer = s.timer := rfl
@[simp] theorem State.modChan_book (c : Chan) (f : Channel → Channel) : (s.modChan c f).book = s.book := rfl
@[simp] theorem State.modChan_peers (c : Chan) (f : Channel → Channel) : (s.modChan c f).peers = s.peers := rfl
@[simp] theorem State.modChan_unit (c : Chan) (f : Channel → Channel) : (s.modChan c f).unit = s.unit := rfl
@[simp] theorem State.modChan_grants (c : Chan) (f : Channel → Channel) : (s.modChan c f).grants = s.grants := rfl
@[simp] theorem State.modChan_driven (c : Chan) (f : Channel → Channel) : (s.modChan c f).driven = s.driven := rfl
@[simp] theorem State.modChan_supply (c : Chan) (f : Channel → Channel) : (s.modChan c f).supply = s.supply := rfl
@[simp] theorem State.modChan_shed (c : Chan) (f : Channel → Channel) : (s.modChan c f).shed = s.shed := rfl
@[simp] theorem State.modChan_host (c : Chan) (f : Channel → Channel) : (s.modChan c f).host = s.host := rfl
@[simp] theorem State.modChan_serial (c : Chan) (f : Channel → Channel) : (s.modChan c f).serial = s.serial := rfl
@[simp] theorem State.modChan_events (c : Chan) (f : Channel → Channel) : (s.modChan c f).events = s.events := rfl
@[simp] theorem State.modChan_resets (c : Chan) (f : Channel → Channel) : (s.modChan c f).resets = s.resets := rfl
@[simp] theorem State.modChan_pending (c : Chan) (f : Channel → Channel) : (s.modChan c f).pending = s.pending := rfl

/-! `State.modChans` changes `channels` alone. -/

@[simp] theorem State.modChans_station (f : Chan → Channel → Channel) : (s.modChans f).station = s.station := rfl
@[simp] theorem State.modChans_haltCause (f : Chan → Channel → Channel) : (s.modChans f).haltCause = s.haltCause := rfl
@[simp] theorem State.modChans_listenCount (f : Chan → Channel → Channel) : (s.modChans f).listenCount = s.listenCount := rfl
@[simp] theorem State.modChans_settings (f : Chan → Channel → Channel) : (s.modChans f).settings = s.settings := rfl
@[simp] theorem State.modChans_line (f : Chan → Channel → Channel) : (s.modChans f).line = s.line := rfl
@[simp] theorem State.modChans_txQueue (f : Chan → Channel → Channel) : (s.modChans f).txQueue = s.txQueue := rfl
@[simp] theorem State.modChans_summaryTimer (f : Chan → Channel → Channel) : (s.modChans f).summaryTimer = s.summaryTimer := rfl
@[simp] theorem State.modChans_rxQueue (f : Chan → Channel → Channel) : (s.modChans f).rxQueue = s.rxQueue := rfl
@[simp] theorem State.modChans_timer (f : Chan → Channel → Channel) : (s.modChans f).timer = s.timer := rfl
@[simp] theorem State.modChans_book (f : Chan → Channel → Channel) : (s.modChans f).book = s.book := rfl
@[simp] theorem State.modChans_peers (f : Chan → Channel → Channel) : (s.modChans f).peers = s.peers := rfl
@[simp] theorem State.modChans_unit (f : Chan → Channel → Channel) : (s.modChans f).unit = s.unit := rfl
@[simp] theorem State.modChans_grants (f : Chan → Channel → Channel) : (s.modChans f).grants = s.grants := rfl
@[simp] theorem State.modChans_driven (f : Chan → Channel → Channel) : (s.modChans f).driven = s.driven := rfl
@[simp] theorem State.modChans_supply (f : Chan → Channel → Channel) : (s.modChans f).supply = s.supply := rfl
@[simp] theorem State.modChans_shed (f : Chan → Channel → Channel) : (s.modChans f).shed = s.shed := rfl
@[simp] theorem State.modChans_host (f : Chan → Channel → Channel) : (s.modChans f).host = s.host := rfl
@[simp] theorem State.modChans_serial (f : Chan → Channel → Channel) : (s.modChans f).serial = s.serial := rfl
@[simp] theorem State.modChans_events (f : Chan → Channel → Channel) : (s.modChans f).events = s.events := rfl
@[simp] theorem State.modChans_resets (f : Chan → Channel → Channel) : (s.modChans f).resets = s.resets := rfl
@[simp] theorem State.modChans_pending (f : Chan → Channel → Channel) : (s.modChans f).pending = s.pending := rfl

/-! `State.redrive` changes `driven` alone. -/

@[simp] theorem State.redrive_station : s.redrive.station = s.station := rfl
@[simp] theorem State.redrive_haltCause : s.redrive.haltCause = s.haltCause := rfl
@[simp] theorem State.redrive_listenCount : s.redrive.listenCount = s.listenCount := rfl
@[simp] theorem State.redrive_settings : s.redrive.settings = s.settings := rfl
@[simp] theorem State.redrive_line : s.redrive.line = s.line := rfl
@[simp] theorem State.redrive_txQueue : s.redrive.txQueue = s.txQueue := rfl
@[simp] theorem State.redrive_summaryTimer : s.redrive.summaryTimer = s.summaryTimer := rfl
@[simp] theorem State.redrive_rxQueue : s.redrive.rxQueue = s.rxQueue := rfl
@[simp] theorem State.redrive_timer : s.redrive.timer = s.timer := rfl
@[simp] theorem State.redrive_book : s.redrive.book = s.book := rfl
@[simp] theorem State.redrive_peers : s.redrive.peers = s.peers := rfl
@[simp] theorem State.redrive_unit : s.redrive.unit = s.unit := rfl
@[simp] theorem State.redrive_channels : s.redrive.channels = s.channels := rfl
@[simp] theorem State.redrive_grants : s.redrive.grants = s.grants := rfl
@[simp] theorem State.redrive_supply : s.redrive.supply = s.supply := rfl
@[simp] theorem State.redrive_shed : s.redrive.shed = s.shed := rfl
@[simp] theorem State.redrive_host : s.redrive.host = s.host := rfl
@[simp] theorem State.redrive_serial : s.redrive.serial = s.serial := rfl
@[simp] theorem State.redrive_events : s.redrive.events = s.events := rfl
@[simp] theorem State.redrive_resets : s.redrive.resets = s.resets := rfl
@[simp] theorem State.redrive_pending : s.redrive.pending = s.pending := rfl

/-! `State.trimDrive` changes `driven` alone. -/

@[simp] theorem State.trimDrive_station : s.trimDrive.station = s.station := rfl
@[simp] theorem State.trimDrive_haltCause : s.trimDrive.haltCause = s.haltCause := rfl
@[simp] theorem State.trimDrive_listenCount : s.trimDrive.listenCount = s.listenCount := rfl
@[simp] theorem State.trimDrive_settings : s.trimDrive.settings = s.settings := rfl
@[simp] theorem State.trimDrive_line : s.trimDrive.line = s.line := rfl
@[simp] theorem State.trimDrive_txQueue : s.trimDrive.txQueue = s.txQueue := rfl
@[simp] theorem State.trimDrive_summaryTimer : s.trimDrive.summaryTimer = s.summaryTimer := rfl
@[simp] theorem State.trimDrive_rxQueue : s.trimDrive.rxQueue = s.rxQueue := rfl
@[simp] theorem State.trimDrive_timer : s.trimDrive.timer = s.timer := rfl
@[simp] theorem State.trimDrive_book : s.trimDrive.book = s.book := rfl
@[simp] theorem State.trimDrive_peers : s.trimDrive.peers = s.peers := rfl
@[simp] theorem State.trimDrive_unit : s.trimDrive.unit = s.unit := rfl
@[simp] theorem State.trimDrive_channels : s.trimDrive.channels = s.channels := rfl
@[simp] theorem State.trimDrive_grants : s.trimDrive.grants = s.grants := rfl
@[simp] theorem State.trimDrive_supply : s.trimDrive.supply = s.supply := rfl
@[simp] theorem State.trimDrive_shed : s.trimDrive.shed = s.shed := rfl
@[simp] theorem State.trimDrive_host : s.trimDrive.host = s.host := rfl
@[simp] theorem State.trimDrive_serial : s.trimDrive.serial = s.serial := rfl
@[simp] theorem State.trimDrive_events : s.trimDrive.events = s.events := rfl
@[simp] theorem State.trimDrive_resets : s.trimDrive.resets = s.resets := rfl
@[simp] theorem State.trimDrive_pending : s.trimDrive.pending = s.pending := rfl

/-! `State.dropDrive` changes `driven` alone. -/

@[simp] theorem State.dropDrive_station : s.dropDrive.station = s.station := rfl
@[simp] theorem State.dropDrive_haltCause : s.dropDrive.haltCause = s.haltCause := rfl
@[simp] theorem State.dropDrive_listenCount : s.dropDrive.listenCount = s.listenCount := rfl
@[simp] theorem State.dropDrive_settings : s.dropDrive.settings = s.settings := rfl
@[simp] theorem State.dropDrive_line : s.dropDrive.line = s.line := rfl
@[simp] theorem State.dropDrive_txQueue : s.dropDrive.txQueue = s.txQueue := rfl
@[simp] theorem State.dropDrive_summaryTimer : s.dropDrive.summaryTimer = s.summaryTimer := rfl
@[simp] theorem State.dropDrive_rxQueue : s.dropDrive.rxQueue = s.rxQueue := rfl
@[simp] theorem State.dropDrive_timer : s.dropDrive.timer = s.timer := rfl
@[simp] theorem State.dropDrive_book : s.dropDrive.book = s.book := rfl
@[simp] theorem State.dropDrive_peers : s.dropDrive.peers = s.peers := rfl
@[simp] theorem State.dropDrive_unit : s.dropDrive.unit = s.unit := rfl
@[simp] theorem State.dropDrive_channels : s.dropDrive.channels = s.channels := rfl
@[simp] theorem State.dropDrive_grants : s.dropDrive.grants = s.grants := rfl
@[simp] theorem State.dropDrive_supply : s.dropDrive.supply = s.supply := rfl
@[simp] theorem State.dropDrive_shed : s.dropDrive.shed = s.shed := rfl
@[simp] theorem State.dropDrive_host : s.dropDrive.host = s.host := rfl
@[simp] theorem State.dropDrive_serial : s.dropDrive.serial = s.serial := rfl
@[simp] theorem State.dropDrive_events : s.dropDrive.events = s.events := rfl
@[simp] theorem State.dropDrive_resets : s.dropDrive.resets = s.resets := rfl
@[simp] theorem State.dropDrive_pending : s.dropDrive.pending = s.pending := rfl

/-! `State.writeOutcome` changes `channels`, `events` alone. -/

@[simp] theorem State.writeOutcome_station (c : Chan) (k : OutcomeKind) (w : Option Window) : (s.writeOutcome c k w).station = s.station := rfl
@[simp] theorem State.writeOutcome_haltCause (c : Chan) (k : OutcomeKind) (w : Option Window) : (s.writeOutcome c k w).haltCause = s.haltCause := rfl
@[simp] theorem State.writeOutcome_listenCount (c : Chan) (k : OutcomeKind) (w : Option Window) : (s.writeOutcome c k w).listenCount = s.listenCount := rfl
@[simp] theorem State.writeOutcome_settings (c : Chan) (k : OutcomeKind) (w : Option Window) : (s.writeOutcome c k w).settings = s.settings := rfl
@[simp] theorem State.writeOutcome_line (c : Chan) (k : OutcomeKind) (w : Option Window) : (s.writeOutcome c k w).line = s.line := rfl
@[simp] theorem State.writeOutcome_txQueue (c : Chan) (k : OutcomeKind) (w : Option Window) : (s.writeOutcome c k w).txQueue = s.txQueue := rfl
@[simp] theorem State.writeOutcome_summaryTimer (c : Chan) (k : OutcomeKind) (w : Option Window) : (s.writeOutcome c k w).summaryTimer = s.summaryTimer := rfl
@[simp] theorem State.writeOutcome_rxQueue (c : Chan) (k : OutcomeKind) (w : Option Window) : (s.writeOutcome c k w).rxQueue = s.rxQueue := rfl
@[simp] theorem State.writeOutcome_timer (c : Chan) (k : OutcomeKind) (w : Option Window) : (s.writeOutcome c k w).timer = s.timer := rfl
@[simp] theorem State.writeOutcome_book (c : Chan) (k : OutcomeKind) (w : Option Window) : (s.writeOutcome c k w).book = s.book := rfl
@[simp] theorem State.writeOutcome_peers (c : Chan) (k : OutcomeKind) (w : Option Window) : (s.writeOutcome c k w).peers = s.peers := rfl
@[simp] theorem State.writeOutcome_unit (c : Chan) (k : OutcomeKind) (w : Option Window) : (s.writeOutcome c k w).unit = s.unit := rfl
@[simp] theorem State.writeOutcome_grants (c : Chan) (k : OutcomeKind) (w : Option Window) : (s.writeOutcome c k w).grants = s.grants := rfl
@[simp] theorem State.writeOutcome_driven (c : Chan) (k : OutcomeKind) (w : Option Window) : (s.writeOutcome c k w).driven = s.driven := rfl
@[simp] theorem State.writeOutcome_supply (c : Chan) (k : OutcomeKind) (w : Option Window) : (s.writeOutcome c k w).supply = s.supply := rfl
@[simp] theorem State.writeOutcome_shed (c : Chan) (k : OutcomeKind) (w : Option Window) : (s.writeOutcome c k w).shed = s.shed := rfl
@[simp] theorem State.writeOutcome_host (c : Chan) (k : OutcomeKind) (w : Option Window) : (s.writeOutcome c k w).host = s.host := rfl
@[simp] theorem State.writeOutcome_serial (c : Chan) (k : OutcomeKind) (w : Option Window) : (s.writeOutcome c k w).serial = s.serial := rfl
@[simp] theorem State.writeOutcome_resets (c : Chan) (k : OutcomeKind) (w : Option Window) : (s.writeOutcome c k w).resets = s.resets := rfl
@[simp] theorem State.writeOutcome_pending (c : Chan) (k : OutcomeKind) (w : Option Window) : (s.writeOutcome c k w).pending = s.pending := rfl

/-! `State.endChannel` changes `channels`, `events` alone. -/

@[simp] theorem State.endChannel_station (c : Chan) (k : OutcomeKind) : (s.endChannel c k).station = s.station := rfl
@[simp] theorem State.endChannel_haltCause (c : Chan) (k : OutcomeKind) : (s.endChannel c k).haltCause = s.haltCause := rfl
@[simp] theorem State.endChannel_listenCount (c : Chan) (k : OutcomeKind) : (s.endChannel c k).listenCount = s.listenCount := rfl
@[simp] theorem State.endChannel_settings (c : Chan) (k : OutcomeKind) : (s.endChannel c k).settings = s.settings := rfl
@[simp] theorem State.endChannel_line (c : Chan) (k : OutcomeKind) : (s.endChannel c k).line = s.line := rfl
@[simp] theorem State.endChannel_txQueue (c : Chan) (k : OutcomeKind) : (s.endChannel c k).txQueue = s.txQueue := rfl
@[simp] theorem State.endChannel_summaryTimer (c : Chan) (k : OutcomeKind) : (s.endChannel c k).summaryTimer = s.summaryTimer := rfl
@[simp] theorem State.endChannel_rxQueue (c : Chan) (k : OutcomeKind) : (s.endChannel c k).rxQueue = s.rxQueue := rfl
@[simp] theorem State.endChannel_timer (c : Chan) (k : OutcomeKind) : (s.endChannel c k).timer = s.timer := rfl
@[simp] theorem State.endChannel_book (c : Chan) (k : OutcomeKind) : (s.endChannel c k).book = s.book := rfl
@[simp] theorem State.endChannel_peers (c : Chan) (k : OutcomeKind) : (s.endChannel c k).peers = s.peers := rfl
@[simp] theorem State.endChannel_unit (c : Chan) (k : OutcomeKind) : (s.endChannel c k).unit = s.unit := rfl
@[simp] theorem State.endChannel_grants (c : Chan) (k : OutcomeKind) : (s.endChannel c k).grants = s.grants := rfl
@[simp] theorem State.endChannel_driven (c : Chan) (k : OutcomeKind) : (s.endChannel c k).driven = s.driven := rfl
@[simp] theorem State.endChannel_supply (c : Chan) (k : OutcomeKind) : (s.endChannel c k).supply = s.supply := rfl
@[simp] theorem State.endChannel_shed (c : Chan) (k : OutcomeKind) : (s.endChannel c k).shed = s.shed := rfl
@[simp] theorem State.endChannel_host (c : Chan) (k : OutcomeKind) : (s.endChannel c k).host = s.host := rfl
@[simp] theorem State.endChannel_serial (c : Chan) (k : OutcomeKind) : (s.endChannel c k).serial = s.serial := rfl
@[simp] theorem State.endChannel_resets (c : Chan) (k : OutcomeKind) : (s.endChannel c k).resets = s.resets := rfl
@[simp] theorem State.endChannel_pending (c : Chan) (k : OutcomeKind) : (s.endChannel c k).pending = s.pending := rfl

/-! `State.startSampler` changes `supply` alone. -/

@[simp] theorem State.startSampler_station : s.startSampler.station = s.station := rfl
@[simp] theorem State.startSampler_haltCause : s.startSampler.haltCause = s.haltCause := rfl
@[simp] theorem State.startSampler_listenCount : s.startSampler.listenCount = s.listenCount := rfl
@[simp] theorem State.startSampler_settings : s.startSampler.settings = s.settings := rfl
@[simp] theorem State.startSampler_line : s.startSampler.line = s.line := rfl
@[simp] theorem State.startSampler_txQueue : s.startSampler.txQueue = s.txQueue := rfl
@[simp] theorem State.startSampler_summaryTimer : s.startSampler.summaryTimer = s.summaryTimer := rfl
@[simp] theorem State.startSampler_rxQueue : s.startSampler.rxQueue = s.rxQueue := rfl
@[simp] theorem State.startSampler_timer : s.startSampler.timer = s.timer := rfl
@[simp] theorem State.startSampler_book : s.startSampler.book = s.book := rfl
@[simp] theorem State.startSampler_peers : s.startSampler.peers = s.peers := rfl
@[simp] theorem State.startSampler_unit : s.startSampler.unit = s.unit := rfl
@[simp] theorem State.startSampler_channels : s.startSampler.channels = s.channels := rfl
@[simp] theorem State.startSampler_grants : s.startSampler.grants = s.grants := rfl
@[simp] theorem State.startSampler_driven : s.startSampler.driven = s.driven := rfl
@[simp] theorem State.startSampler_shed : s.startSampler.shed = s.shed := rfl
@[simp] theorem State.startSampler_host : s.startSampler.host = s.host := rfl
@[simp] theorem State.startSampler_serial : s.startSampler.serial = s.serial := rfl
@[simp] theorem State.startSampler_events : s.startSampler.events = s.events := rfl
@[simp] theorem State.startSampler_resets : s.startSampler.resets = s.resets := rfl
@[simp] theorem State.startSampler_pending : s.startSampler.pending = s.pending := rfl

/-! `State.cancelShed` changes `channels`, `shed` alone. -/

@[simp] theorem State.cancelShed_station : s.cancelShed.station = s.station := rfl
@[simp] theorem State.cancelShed_haltCause : s.cancelShed.haltCause = s.haltCause := rfl
@[simp] theorem State.cancelShed_listenCount : s.cancelShed.listenCount = s.listenCount := rfl
@[simp] theorem State.cancelShed_settings : s.cancelShed.settings = s.settings := rfl
@[simp] theorem State.cancelShed_line : s.cancelShed.line = s.line := rfl
@[simp] theorem State.cancelShed_txQueue : s.cancelShed.txQueue = s.txQueue := rfl
@[simp] theorem State.cancelShed_summaryTimer : s.cancelShed.summaryTimer = s.summaryTimer := rfl
@[simp] theorem State.cancelShed_rxQueue : s.cancelShed.rxQueue = s.rxQueue := rfl
@[simp] theorem State.cancelShed_timer : s.cancelShed.timer = s.timer := rfl
@[simp] theorem State.cancelShed_book : s.cancelShed.book = s.book := rfl
@[simp] theorem State.cancelShed_peers : s.cancelShed.peers = s.peers := rfl
@[simp] theorem State.cancelShed_unit : s.cancelShed.unit = s.unit := rfl
@[simp] theorem State.cancelShed_grants : s.cancelShed.grants = s.grants := rfl
@[simp] theorem State.cancelShed_driven : s.cancelShed.driven = s.driven := rfl
@[simp] theorem State.cancelShed_supply : s.cancelShed.supply = s.supply := rfl
@[simp] theorem State.cancelShed_host : s.cancelShed.host = s.host := rfl
@[simp] theorem State.cancelShed_serial : s.cancelShed.serial = s.serial := rfl
@[simp] theorem State.cancelShed_events : s.cancelShed.events = s.events := rfl
@[simp] theorem State.cancelShed_resets : s.cancelShed.resets = s.resets := rfl
@[simp] theorem State.cancelShed_pending : s.cancelShed.pending = s.pending := rfl

/-! `State.answerWith` changes `host` alone. -/

@[simp] theorem State.answerWith_station (r : Response) : (s.answerWith r).station = s.station := rfl
@[simp] theorem State.answerWith_haltCause (r : Response) : (s.answerWith r).haltCause = s.haltCause := rfl
@[simp] theorem State.answerWith_listenCount (r : Response) : (s.answerWith r).listenCount = s.listenCount := rfl
@[simp] theorem State.answerWith_settings (r : Response) : (s.answerWith r).settings = s.settings := rfl
@[simp] theorem State.answerWith_line (r : Response) : (s.answerWith r).line = s.line := rfl
@[simp] theorem State.answerWith_txQueue (r : Response) : (s.answerWith r).txQueue = s.txQueue := rfl
@[simp] theorem State.answerWith_summaryTimer (r : Response) : (s.answerWith r).summaryTimer = s.summaryTimer := rfl
@[simp] theorem State.answerWith_rxQueue (r : Response) : (s.answerWith r).rxQueue = s.rxQueue := rfl
@[simp] theorem State.answerWith_timer (r : Response) : (s.answerWith r).timer = s.timer := rfl
@[simp] theorem State.answerWith_book (r : Response) : (s.answerWith r).book = s.book := rfl
@[simp] theorem State.answerWith_peers (r : Response) : (s.answerWith r).peers = s.peers := rfl
@[simp] theorem State.answerWith_unit (r : Response) : (s.answerWith r).unit = s.unit := rfl
@[simp] theorem State.answerWith_channels (r : Response) : (s.answerWith r).channels = s.channels := rfl
@[simp] theorem State.answerWith_grants (r : Response) : (s.answerWith r).grants = s.grants := rfl
@[simp] theorem State.answerWith_driven (r : Response) : (s.answerWith r).driven = s.driven := rfl
@[simp] theorem State.answerWith_supply (r : Response) : (s.answerWith r).supply = s.supply := rfl
@[simp] theorem State.answerWith_shed (r : Response) : (s.answerWith r).shed = s.shed := rfl
@[simp] theorem State.answerWith_serial (r : Response) : (s.answerWith r).serial = s.serial := rfl
@[simp] theorem State.answerWith_events (r : Response) : (s.answerWith r).events = s.events := rfl
@[simp] theorem State.answerWith_resets (r : Response) : (s.answerWith r).resets = s.resets := rfl
@[simp] theorem State.answerWith_pending (r : Response) : (s.answerWith r).pending = s.pending := rfl

/-! `State.answer` changes `host` alone. -/

@[simp] theorem State.answer_station (cmd : HostCmd) (r : ResultCode) : (s.answer cmd r).station = s.station := rfl
@[simp] theorem State.answer_haltCause (cmd : HostCmd) (r : ResultCode) : (s.answer cmd r).haltCause = s.haltCause := rfl
@[simp] theorem State.answer_listenCount (cmd : HostCmd) (r : ResultCode) : (s.answer cmd r).listenCount = s.listenCount := rfl
@[simp] theorem State.answer_settings (cmd : HostCmd) (r : ResultCode) : (s.answer cmd r).settings = s.settings := rfl
@[simp] theorem State.answer_line (cmd : HostCmd) (r : ResultCode) : (s.answer cmd r).line = s.line := rfl
@[simp] theorem State.answer_txQueue (cmd : HostCmd) (r : ResultCode) : (s.answer cmd r).txQueue = s.txQueue := rfl
@[simp] theorem State.answer_summaryTimer (cmd : HostCmd) (r : ResultCode) : (s.answer cmd r).summaryTimer = s.summaryTimer := rfl
@[simp] theorem State.answer_rxQueue (cmd : HostCmd) (r : ResultCode) : (s.answer cmd r).rxQueue = s.rxQueue := rfl
@[simp] theorem State.answer_timer (cmd : HostCmd) (r : ResultCode) : (s.answer cmd r).timer = s.timer := rfl
@[simp] theorem State.answer_book (cmd : HostCmd) (r : ResultCode) : (s.answer cmd r).book = s.book := rfl
@[simp] theorem State.answer_peers (cmd : HostCmd) (r : ResultCode) : (s.answer cmd r).peers = s.peers := rfl
@[simp] theorem State.answer_unit (cmd : HostCmd) (r : ResultCode) : (s.answer cmd r).unit = s.unit := rfl
@[simp] theorem State.answer_channels (cmd : HostCmd) (r : ResultCode) : (s.answer cmd r).channels = s.channels := rfl
@[simp] theorem State.answer_grants (cmd : HostCmd) (r : ResultCode) : (s.answer cmd r).grants = s.grants := rfl
@[simp] theorem State.answer_driven (cmd : HostCmd) (r : ResultCode) : (s.answer cmd r).driven = s.driven := rfl
@[simp] theorem State.answer_supply (cmd : HostCmd) (r : ResultCode) : (s.answer cmd r).supply = s.supply := rfl
@[simp] theorem State.answer_shed (cmd : HostCmd) (r : ResultCode) : (s.answer cmd r).shed = s.shed := rfl
@[simp] theorem State.answer_serial (cmd : HostCmd) (r : ResultCode) : (s.answer cmd r).serial = s.serial := rfl
@[simp] theorem State.answer_events (cmd : HostCmd) (r : ResultCode) : (s.answer cmd r).events = s.events := rfl
@[simp] theorem State.answer_resets (cmd : HostCmd) (r : ResultCode) : (s.answer cmd r).resets = s.resets := rfl
@[simp] theorem State.answer_pending (cmd : HostCmd) (r : ResultCode) : (s.answer cmd r).pending = s.pending := rfl

/-! `State.startJob` changes `unit` alone. -/

@[simp] theorem State.startJob_station (j : Job) : (s.startJob j).station = s.station := rfl
@[simp] theorem State.startJob_haltCause (j : Job) : (s.startJob j).haltCause = s.haltCause := rfl
@[simp] theorem State.startJob_listenCount (j : Job) : (s.startJob j).listenCount = s.listenCount := rfl
@[simp] theorem State.startJob_settings (j : Job) : (s.startJob j).settings = s.settings := rfl
@[simp] theorem State.startJob_line (j : Job) : (s.startJob j).line = s.line := rfl
@[simp] theorem State.startJob_txQueue (j : Job) : (s.startJob j).txQueue = s.txQueue := rfl
@[simp] theorem State.startJob_summaryTimer (j : Job) : (s.startJob j).summaryTimer = s.summaryTimer := rfl
@[simp] theorem State.startJob_rxQueue (j : Job) : (s.startJob j).rxQueue = s.rxQueue := rfl
@[simp] theorem State.startJob_timer (j : Job) : (s.startJob j).timer = s.timer := rfl
@[simp] theorem State.startJob_book (j : Job) : (s.startJob j).book = s.book := rfl
@[simp] theorem State.startJob_peers (j : Job) : (s.startJob j).peers = s.peers := rfl
@[simp] theorem State.startJob_channels (j : Job) : (s.startJob j).channels = s.channels := rfl
@[simp] theorem State.startJob_grants (j : Job) : (s.startJob j).grants = s.grants := rfl
@[simp] theorem State.startJob_driven (j : Job) : (s.startJob j).driven = s.driven := rfl
@[simp] theorem State.startJob_supply (j : Job) : (s.startJob j).supply = s.supply := rfl
@[simp] theorem State.startJob_shed (j : Job) : (s.startJob j).shed = s.shed := rfl
@[simp] theorem State.startJob_host (j : Job) : (s.startJob j).host = s.host := rfl
@[simp] theorem State.startJob_serial (j : Job) : (s.startJob j).serial = s.serial := rfl
@[simp] theorem State.startJob_events (j : Job) : (s.startJob j).events = s.events := rfl
@[simp] theorem State.startJob_resets (j : Job) : (s.startJob j).resets = s.resets := rfl
@[simp] theorem State.startJob_pending (j : Job) : (s.startJob j).pending = s.pending := rfl

/-! `State.judge` changes `line` alone. -/

@[simp] theorem State.judge_station (run : LineRun) (phase : LinePhase) : (s.judge run phase).station = s.station := rfl
@[simp] theorem State.judge_haltCause (run : LineRun) (phase : LinePhase) : (s.judge run phase).haltCause = s.haltCause := rfl
@[simp] theorem State.judge_listenCount (run : LineRun) (phase : LinePhase) : (s.judge run phase).listenCount = s.listenCount := rfl
@[simp] theorem State.judge_settings (run : LineRun) (phase : LinePhase) : (s.judge run phase).settings = s.settings := rfl
@[simp] theorem State.judge_txQueue (run : LineRun) (phase : LinePhase) : (s.judge run phase).txQueue = s.txQueue := rfl
@[simp] theorem State.judge_summaryTimer (run : LineRun) (phase : LinePhase) : (s.judge run phase).summaryTimer = s.summaryTimer := rfl
@[simp] theorem State.judge_rxQueue (run : LineRun) (phase : LinePhase) : (s.judge run phase).rxQueue = s.rxQueue := rfl
@[simp] theorem State.judge_timer (run : LineRun) (phase : LinePhase) : (s.judge run phase).timer = s.timer := rfl
@[simp] theorem State.judge_book (run : LineRun) (phase : LinePhase) : (s.judge run phase).book = s.book := rfl
@[simp] theorem State.judge_peers (run : LineRun) (phase : LinePhase) : (s.judge run phase).peers = s.peers := rfl
@[simp] theorem State.judge_unit (run : LineRun) (phase : LinePhase) : (s.judge run phase).unit = s.unit := rfl
@[simp] theorem State.judge_channels (run : LineRun) (phase : LinePhase) : (s.judge run phase).channels = s.channels := rfl
@[simp] theorem State.judge_grants (run : LineRun) (phase : LinePhase) : (s.judge run phase).grants = s.grants := rfl
@[simp] theorem State.judge_driven (run : LineRun) (phase : LinePhase) : (s.judge run phase).driven = s.driven := rfl
@[simp] theorem State.judge_supply (run : LineRun) (phase : LinePhase) : (s.judge run phase).supply = s.supply := rfl
@[simp] theorem State.judge_shed (run : LineRun) (phase : LinePhase) : (s.judge run phase).shed = s.shed := rfl
@[simp] theorem State.judge_host (run : LineRun) (phase : LinePhase) : (s.judge run phase).host = s.host := rfl
@[simp] theorem State.judge_serial (run : LineRun) (phase : LinePhase) : (s.judge run phase).serial = s.serial := rfl
@[simp] theorem State.judge_events (run : LineRun) (phase : LinePhase) : (s.judge run phase).events = s.events := rfl
@[simp] theorem State.judge_resets (run : LineRun) (phase : LinePhase) : (s.judge run phase).resets = s.resets := rfl
@[simp] theorem State.judge_pending (run : LineRun) (phase : LinePhase) : (s.judge run phase).pending = s.pending := rfl

/-! `State.enqueue` changes `rxQueue` alone. -/

@[simp] theorem State.enqueue_station (item : RxItem) : (s.enqueue item).station = s.station := rfl
@[simp] theorem State.enqueue_haltCause (item : RxItem) : (s.enqueue item).haltCause = s.haltCause := rfl
@[simp] theorem State.enqueue_listenCount (item : RxItem) : (s.enqueue item).listenCount = s.listenCount := rfl
@[simp] theorem State.enqueue_settings (item : RxItem) : (s.enqueue item).settings = s.settings := rfl
@[simp] theorem State.enqueue_line (item : RxItem) : (s.enqueue item).line = s.line := rfl
@[simp] theorem State.enqueue_txQueue (item : RxItem) : (s.enqueue item).txQueue = s.txQueue := rfl
@[simp] theorem State.enqueue_summaryTimer (item : RxItem) : (s.enqueue item).summaryTimer = s.summaryTimer := rfl
@[simp] theorem State.enqueue_timer (item : RxItem) : (s.enqueue item).timer = s.timer := rfl
@[simp] theorem State.enqueue_book (item : RxItem) : (s.enqueue item).book = s.book := rfl
@[simp] theorem State.enqueue_peers (item : RxItem) : (s.enqueue item).peers = s.peers := rfl
@[simp] theorem State.enqueue_unit (item : RxItem) : (s.enqueue item).unit = s.unit := rfl
@[simp] theorem State.enqueue_channels (item : RxItem) : (s.enqueue item).channels = s.channels := rfl
@[simp] theorem State.enqueue_grants (item : RxItem) : (s.enqueue item).grants = s.grants := rfl
@[simp] theorem State.enqueue_driven (item : RxItem) : (s.enqueue item).driven = s.driven := rfl
@[simp] theorem State.enqueue_supply (item : RxItem) : (s.enqueue item).supply = s.supply := rfl
@[simp] theorem State.enqueue_shed (item : RxItem) : (s.enqueue item).shed = s.shed := rfl
@[simp] theorem State.enqueue_host (item : RxItem) : (s.enqueue item).host = s.host := rfl
@[simp] theorem State.enqueue_serial (item : RxItem) : (s.enqueue item).serial = s.serial := rfl
@[simp] theorem State.enqueue_events (item : RxItem) : (s.enqueue item).events = s.events := rfl
@[simp] theorem State.enqueue_resets (item : RxItem) : (s.enqueue item).resets = s.resets := rfl
@[simp] theorem State.enqueue_pending (item : RxItem) : (s.enqueue item).pending = s.pending := rfl

end Sys2Proof.Machine
end

