-- ==== Sys2Proof/Laws/Ops.lean ====
section
/-! SUPPORT. What each shared operation does, said once: channel records, outputs, events, the tables, the transmit
queue, and the moves that reach several blocks. -/

namespace Sys2Proof.Machine

variable (s : State)

/-! ### Vectors -/

theorem get_set {α : Type} {n : Nat} (v : Vector α n) (i j : Fin n) (x : α) :
    (v.set i x).get j = if j = i then x else v.get j := by
  simp only [Vector.get_eq_getElem, Vector.getElem_set, Fin.ext_iff, eq_comm]

theorem get_ofFn {α : Type} {n : Nat} (f : Fin n → α) (i : Fin n) : (Vector.ofFn f).get i = f i := by
  simp [Vector.get_eq_getElem]

theorem get_replicate {α : Type} {n : Nat} (x : α) (i : Fin n) : (Vector.replicate n x).get i = x := by
  simp [Vector.get_eq_getElem]

/-- Two vectors with equal components are equal. -/
theorem vector_ext_get {α : Type} {n : Nat} {v w : Vector α n} (h : ∀ i, v.get i = w.get i) : v = w := by
  ext i hi
  simpa [Vector.get_eq_getElem] using h ⟨i, hi⟩

/-! ### Channel records -/

theorem State.chan_eq (c : Chan) : s.chan c = s.channels.get c := rfl

/-- An update that leaves the channels alone leaves every record. -/
theorem State.chan_congr {s t : State} (h : t.channels = s.channels) (c : Chan) : t.chan c = s.chan c := by
  simp [State.chan_eq, h]

@[simp] theorem State.setChan_chan (c d : Chan) (ch : Channel) :
    (s.setChan c ch).chan d = if d = c then ch else s.chan d := get_set s.channels c d ch

@[simp] theorem State.modChan_chan (c d : Chan) (f : Channel → Channel) :
    (s.modChan c f).chan d = if d = c then f (s.chan c) else s.chan d := get_set s.channels c d _

@[simp] theorem State.modChans_chan (f : Chan → Channel → Channel) (d : Chan) :
    (s.modChans f).chan d = f d (s.chan d) := get_ofFn _ d

@[simp] theorem State.raiseBits_chan (bits : BitVec 16) (d : Chan) : (s.raiseBits bits).chan d = s.chan d := rfl

@[simp] theorem State.raise_chan (e : Event) (d : Chan) : (s.raise e).chan d = s.chan d := rfl

@[simp] theorem State.redrive_chan (d : Chan) : s.redrive.chan d = s.chan d := rfl

@[simp] theorem State.trimDrive_chan (d : Chan) : s.trimDrive.chan d = s.chan d := rfl

@[simp] theorem State.dropDrive_chan (d : Chan) : s.dropDrive.chan d = s.chan d := rfl

@[simp] theorem State.startSampler_chan (d : Chan) : s.startSampler.chan d = s.chan d := rfl

@[simp] theorem State.answerWith_chan (r : Response) (d : Chan) : (s.answerWith r).chan d = s.chan d := rfl

@[simp] theorem State.startJob_chan (j : Job) (d : Chan) : (s.startJob j).chan d = s.chan d := rfl

@[simp] theorem State.enqueue_chan (item : RxItem) (d : Chan) : (s.enqueue item).chan d = s.chan d := rfl

@[simp] theorem State.writeOutcome_chan (c d : Chan) (k : OutcomeKind) (w : Option Window) :
    (s.writeOutcome c k w).chan d =
      if d = c then (s.chan c).withOutcome (readingOutcome s.host.response c) k w else s.chan d := by
  simp [State.writeOutcome]

@[simp] theorem State.endChannel_chan (c d : Chan) (k : OutcomeKind) :
    (s.endChannel c k).chan d =
      if d = c then (s.chan c).toIdle.withOutcome (readingOutcome s.host.response c) k none else s.chan d := by
  simp [State.endChannel]
  split <;> simp_all

@[simp] theorem State.cancelShed_chan (d : Chan) :
    s.cancelShed.chan d = { s.chan d with shedSuspended := false } := by
  simp only [State.chan_eq, State.cancelShed, State.modChans, get_ofFn]

/-- A record set twice is the record set last. -/
theorem State.setChan_setChan (c : Chan) (a b : Channel) : (s.setChan c a).setChan c b = s.setChan c b := by
  have : (s.channels.set c a).set c b = s.channels.set c b :=
    vector_ext_get fun i => by simp only [get_set]; split <;> rfl
  simp [State.setChan, this]

/-! ### Outputs -/

theorem State.redrive_driven (c : Chan) : s.redrive.driven.get c = (s.chan c).drives s.timer.slice := get_ofFn _ c

theorem State.trimDrive_driven (c : Chan) :
    s.trimDrive.driven.get c = (s.driven.get c && (s.chan c).drives s.timer.slice) := get_ofFn _ c

theorem State.dropDrive_driven (c : Chan) : s.dropDrive.driven.get c = false := get_replicate _ c

/-- The drive condition, in words (R67). -/
theorem Channel.drives_iff (slice : Nat) (ch : Channel) :
    ch.drives slice = true ↔ ch.state = .held ∧ ch.live = true ∧ ch.shedSuspended = false ∧
      ∃ w ∈ ch.window, w.start ≤ slice ∧ slice < w.start + w.len := by
  cases h : ch.window <;> simp [Channel.drives, Window.covers, h, and_assoc]

/-! ### Events -/

theorem State.raise_flags (e : Event) : (s.raise e).events.flags = s.events.flags ||| eventBit e := rfl

theorem State.raise_mask (e : Event) : (s.raise e).events.mask = s.events.mask := rfl

/-- With no READ_EVENTS in progress an event marks no second occurrence. -/
theorem State.raise_seconds (e : Event) (h : unshiftedFlags s.host.response = 0#16) :
    (s.raise e).events.seconds = s.events.seconds := by
  simp [State.raise, State.raiseBits, h]

/-- Event flags are ordered by number: the bit of one event is set in the word of another only if they are the same. -/
theorem eventBit_getLsbD (e f : Event) : (eventBit e).getLsbD (eventNumber f) = decide (f = e) := by
  cases e <;> cases f <;> decide

/-! ### The tables -/

theorem mapOver_get (w : Window) (f : Sums → Sums) (m : Vector Sums 64) (i : Fin 64) :
    (mapOver w f m).get i = if w.covers i.val then f (m.get i) else m.get i := get_ofFn _ i

theorem Book.put_entry (b : Book) (p q : Fin 96) (e : Entry) :
    (b.put p e).entry q = if q = p then some e else b.entry q := get_set b.table p q (some e)

theorem Book.drop_entry (b : Book) (p q : Fin 96) : (b.drop p).entry q = if q = p then none else b.entry q := by
  unfold Book.drop
  split
  · split
    · next h hq => rw [hq]; exact h
    · rfl
  · exact get_set b.table p q none

theorem Book.restate_entry (b : Book) (p q : Fin 96) (st : EntryState) :
    (b.restate p st).entry q =
      if q = p then (b.entry p).map (fun e => { e with state := st }) else b.entry q := by
  unfold Book.restate
  split
  · next h => split <;> simp_all
  · next e h => simp only [h, Option.map_some]; exact get_set b.table p q _

/-- A window covers a slice from its start up to its end. -/
theorem Window.covers_iff (w : Window) (i : Nat) : w.covers i = true ↔ w.start ≤ i ∧ i < w.start + w.len := by
  simp [Window.covers]

/-! ### Moves over several blocks -/

/-- The end of a job with nothing waiting for the unit only frees the unit (R15). -/
theorem State.freeUnit_quiet (hw : s.unit.withdrawals = []) (hl : s.unit.leaveWaiting = false)
    (hr : s.unit.refillWaiting = false) : s.freeUnit = { s with unit := { s.unit with job := none } } := by
  simp [State.freeUnit, State.waitingLeave, State.waitingWithdrawals, State.waitingRefill, hw, hl, hr]

/-- A station that is not DESYNC, or has a mark left, does not return to JOINED (R130). -/
theorem State.returnToJoined_not (h : s.station = .desync → ∃ p ∈ s.peers, p.awaiting = true) :
    s.returnToJoined = s := by
  unfold State.returnToJoined
  split
  · next hc =>
    obtain ⟨p, hp, ha⟩ := h hc.1
    have := List.all_eq_true.mp hc.2 p hp
    simp [ha] at this
  · rfl

/-- A command at a port that awaits one and holds none is taken (R163). -/
theorem State.receive_ready (cmd : HostCmd) (h : s.host.phase = .command) (hn : s.host.held = none) :
    s.receive cmd = s.take cmd := by
  simp [State.receive, h, hn]

/-- A command other than a RELEASE is taken with no mark set (R57, R173). -/
theorem State.take_unmarked (cmd : HostCmd) (h : ∀ c, cmd ≠ .release c) :
    s.take cmd = State.carryOut ⟨cmd, false⟩
      { s with host := { s.host with current := some ⟨cmd, false⟩, response := none, phase := .waiting } } := by
  cases cmd <;> first | rfl | exact absurd rfl (h _)

/-! ### The bytes of a transaction -/

theorem byteBits_length (b : Byte) : (byteBits b).length = 8 := rfl

/-- The byte that the bits of a byte make is that byte. -/
theorem bitsByte_byteBits : ∀ b : Byte, bitsByte (byteBits b) = b := by decide +kernel

/-- A response that is formed stays as it is at its marker (R166). -/
theorem State.formed_eq (r : Response) (h : r.kind ≠ .unformed) : s.formed r = r := by
  rcases r with ⟨k, fields, c⟩
  cases k <;> first | rfl | exact absurd rfl h

/-- Choosing the ready marker forms a response that is ready in phase WAITING, and does nothing else at any other time
(R162, R166). -/
theorem State.showMarker_cases :
    (∃ r, s.host.phase = .waiting ∧ s.host.response = some r ∧
      s.showMarker = { s with
        host := { s.host with response := some (s.formed r), phase := .response }
        serial := { s.serial with sent := 1 } }) ∨
    ((s.host.phase = .waiting → s.host.response = none) ∧ s.showMarker = s) := by
  unfold State.showMarker
  split
  · next r hp hr => exact .inl ⟨r, hp, hr, rfl⟩
  · next h =>
    refine .inr ⟨fun hp => ?_, rfl⟩
    cases hr : s.host.response with
    | none => rfl
    | some r => exact absurd hr (h r hp)

/-- With SDO high-impedance the serial clock does nothing (R163). -/
theorem State.clock_off (h : s.host.sdoDriven = false) : s.clock = .next s := by simp [State.clock, h]

/-- While a command comes in, eight bits of SDI make its next byte (R163). -/
theorem State.clock_in (got : List Byte) (h : s.host.sdoDriven = true) (hp : s.host.phase.coming = some got)
    (hb : 8 ≤ s.serial.sdi.length) : s.clock = s.byteIn (got ++ [bitsByte (s.serial.sdi.take 8)]) := by
  have : ¬ s.serial.sdi.length < 8 := by omega
  simp [State.clock, h, hp, this]

/-- After the command, the next byte out is chosen, or the one in progress ends (R165). -/
theorem State.clock_out (h : s.host.sdoDriven = true) (hp : s.host.phase.coming = none) :
    s.clock = .next (if s.serial.out.isNone then s.chooseByte else s.byteOutEnds) := by
  simp [State.clock, h, hp]

/-! ### The losses of a sweep, and the line held dominant -/

/-- The peer that a sweep loses next is at the limit, and in a peer table in order no lower-numbered one is (R19). -/
theorem State.nextLost_first {n : Nat} (h : s.nextLost = some n) :
    ∃ p ∈ s.peers, p.number = n ∧ s.settings.silenceLimit ≤ p.silence ∧
      (s.peers.Pairwise (fun p q => p.number < q.number) →
        ∀ q ∈ s.peers, s.settings.silenceLimit ≤ q.silence → n ≤ q.number) := by
  obtain ⟨p, hp, rfl⟩ := Option.map_eq_some_iff.mp h
  obtain ⟨hl, as, bs, he, ha⟩ := List.find?_eq_some_iff_append.mp hp
  refine ⟨p, by simp [he], rfl, by simpa using hl, fun ho q hq hs => ?_⟩
  rw [he] at ho hq
  rcases List.mem_append.mp hq with hq | hq
  · exact absurd hs (by simpa using ha q hq)
  · rcases List.mem_cons.mp hq with rfl | hq
    · exact Nat.le_refl _
    · exact Nat.le_of_lt (List.rel_of_pairwise_cons (List.pairwise_append.mp ho).2.1 hq)

/-- A loss named in a sweep is made in its turn, and at no other time changes anything (R19, R20). -/
theorem State.losePeer_cases (n : Nat) :
    (∃ lost, s.unit.job = some (.sweep lost) ∧ s.nextLost = some n ∧
      s.losePeer n = { s.removeStation n with unit := { s.unit with job := some (.sweep true) } }) ∨
    s.losePeer n = s := by
  unfold State.losePeer
  split
  · next lost h =>
    split
    · next hn => exact .inl ⟨lost, h, hn, rfl⟩
    · exact .inr rfl
  · exact .inr rfl

/-- The line held dominant halts a running station at 128 T, moves its two counts before that, and does nothing to a
station whose receiver is off (R99, R110). -/
theorem State.heldDominant_cases (held : Held) :
    (s.station.running = true ∧ 512 ≤ s.line.timerAt held ∧ s.heldDominant held = s.haltReport .lineFault) ∨
    (s.station.running = true ∧ s.line.timerAt held < 512 ∧
      s.heldDominant held = { s with line := ⟨s.line.phase, 0, s.line.timerAt held⟩ }) ∨
    (s.station.running = false ∧ s.heldDominant held = s) := by
  unfold State.heldDominant
  split
  · next h =>
    split
    · next hq => exact .inl ⟨h, hq, rfl⟩
    · next hq => exact .inr (.inl ⟨h, Nat.lt_of_not_le hq, rfl⟩)
  · next h => exact .inr (.inr ⟨by simpa using h, rfl⟩)

/-! ### The end of a job with work waiting -/

/-- The end of a job is its changes, the unit free, and what waited carried out in turn (R16, R17, R73, R126). -/
theorem State.endJob_eq (j : Job) :
    s.endJob j = ({ s.jobChanges j with unit := { (s.jobChanges j).unit with job := none } }
      ).waitingLeave.waitingWithdrawals.waitingRefill := rfl

/-- In a state that is not running a report halts nothing (R146). -/
theorem State.haltReport_off (cause : HaltCause) (h : s.station.running = false) : s.haltReport cause = s := by
  simp [State.haltReport, h]

end Sys2Proof.Machine
end

