-- ==== Sys2Proof/Laws/PerInstr.lean ====
section
/-! SUPPORT. The statement made for every constructor of `Instr`, one lemma each: a well-formed host command is read
back from its bytes with nothing before its last byte taken as a command, and no other step has bytes (R163, R164). -/

namespace Sys2Proof.Laws.F

/-- What the bytes of a step say: a host command's spell it and no shorter run of them does; any other step has
none. -/
def Statement (i : Instr) : Prop :=
  i.wellFormed = true → ∀ bytes : List Byte, encodeTransaction i = some bytes →
    decodeTransaction bytes = some i ∧ ∀ k, k < bytes.length → decodeTransaction (bytes.take k) = none

/-- A step with no bytes meets the statement. -/
theorem of_none (i : Instr) (h : encodeTransaction i = none) : Statement i := by
  intro _ bytes hb
  rw [h] at hb
  cases hb

/-- A step with given bytes meets the statement when the bytes spell it and their proper beginnings do not. -/
theorem of_bytes (i : Instr) (bs : List Byte) (h : encodeTransaction i = some bs)
    (hd : decodeTransaction bs = some i)
    (hs : ∀ k : Fin bs.length, decodeTransaction (bs.take k.val) = none) : Statement i := by
  intro _ bytes hb
  rw [h] at hb
  cases hb
  exact ⟨hd, fun k hk => hs ⟨k, hk⟩⟩

theorem nop : Statement (.nop) :=
  of_bytes _ _ rfl rfl fun k => match k with
    | 0 => rfl

theorem readStatus : Statement (.readStatus) :=
  of_bytes _ _ rfl rfl fun k => match k with
    | 0 => rfl

theorem readEvents : Statement (.readEvents) :=
  of_bytes _ _ rfl rfl fun k => match k with
    | 0 => rfl

theorem writeEventMask (mask1 mask2 : Byte) : Statement (.writeEventMask mask1 mask2) :=
  of_bytes _ _ rfl rfl fun k => match k with
    | 0 => rfl
    | 1 => rfl
    | 2 => rfl

theorem readSetting (ident : Byte) : Statement (.readSetting ident) :=
  of_bytes _ _ rfl rfl fun k => match k with
    | 0 => rfl
    | 1 => rfl

theorem writeSetting (ident hi lo : Byte) : Statement (.writeSetting ident hi lo) :=
  of_bytes _ _ rfl rfl fun k => match k with
    | 0 => rfl
    | 1 => rfl
    | 2 => rfl
    | 3 => rfl

theorem join : Statement (.join) :=
  of_bytes _ _ rfl rfl fun k => match k with
    | 0 => rfl

theorem leave : Statement (.leave) :=
  of_bytes _ _ rfl rfl fun k => match k with
    | 0 => rfl

theorem softReset : Statement (.softReset) :=
  of_bytes _ _ rfl rfl fun k => match k with
    | 0 => rfl

theorem request (chan mode start len : Byte) : Statement (.request chan mode start len) :=
  of_bytes _ _ rfl rfl fun k => match k with
    | 0 => rfl
    | 1 => rfl
    | 2 => rfl
    | 3 => rfl
    | 4 => rfl

theorem release (chan : Byte) : Statement (.release chan) :=
  of_bytes _ _ rfl rfl fun k => match k with
    | 0 => rfl
    | 1 => rfl

theorem readChannel (chan : Byte) : Statement (.readChannel chan) :=
  of_bytes _ _ rfl rfl fun k => match k with
    | 0 => rfl
    | 1 => rfl

theorem readEntry (index : Byte) : Statement (.readEntry index) :=
  of_bytes _ _ rfl rfl fun k => match k with
    | 0 => rfl
    | 1 => rfl

theorem readPeer (index : Byte) : Statement (.readPeer index) :=
  of_bytes _ _ rfl rfl fun k => match k with
    | 0 => rfl
    | 1 => rfl

theorem readMap (first count : Byte) : Statement (.readMap first count) :=
  of_bytes _ _ rfl rfl fun k => match k with
    | 0 => rfl
    | 1 => rfl
    | 2 => rfl

theorem shedNow : Statement (.shedNow) :=
  of_bytes _ _ rfl rfl fun k => match k with
    | 0 => rfl

theorem unknownCommand (code : Byte) : Statement (.unknownCommand code) := by
  intro hw bytes hb
  cases hb
  have hn : code.toNat ∉ commandCodes := by simpa [Instr.wellFormed] using hw
  refine ⟨?_, ?_⟩
  · simp only [commandCodes, List.mem_cons, List.not_mem_nil, or_false, not_or] at hn
    have hp : parameterCount code = 0 := by
      unfold parameterCount
      split <;> first | rfl | omega
    simp only [decodeTransaction, hp, List.length_nil, Nat.lt_irrefl, if_false, List.take_nil]
    unfold decodeParameters
    split <;> first | omega | simp_all [commandCodes]
  · intro k hk
    have : k = 0 := by simpa using hk
    subst this
    rfl

theorem transactionOpen : Statement (.transactionOpen) := of_none _ rfl

theorem transactionClose : Statement (.transactionClose) := of_none _ rfl

theorem flagByteShifted : Statement (.flagByteShifted) := of_none _ rfl

theorem outcomeByteShifted : Statement (.outcomeByteShifted) := of_none _ rfl

theorem hostJob (point : JobPoint) : Statement (.hostJob point) := of_none _ rfl

theorem evaluate (point : JobPoint) : Statement (.evaluate point) := of_none _ rfl

theorem sweep (point : JobPoint) : Statement (.sweep point) := of_none _ rfl

theorem peerLoss (station : Nat) : Statement (.peerLoss station) := of_none _ rfl

theorem placement (point : JobPoint) : Statement (.placement point) := of_none _ rfl

theorem withdrawal (chan : Chan) : Statement (.withdrawal chan) := of_none _ rfl

theorem leaveDeferredChannelEffects : Statement (.leaveDeferredChannelEffects) := of_none _ rfl

theorem resyncRefill : Statement (.resyncRefill) := of_none _ rfl

theorem sliceBoundary (sns : Nat) : Statement (.sliceBoundary sns) := of_none _ rfl

theorem frameExpiry (sns : Nat) : Statement (.frameExpiry sns) := of_none _ rfl

theorem holdTick (sns : Nat) : Statement (.holdTick sns) := of_none _ rfl

theorem freeRunningSamplerTick (sns : Nat) : Statement (.freeRunningSamplerTick sns) := of_none _ rfl

theorem summaryTimerExpiry : Statement (.summaryTimerExpiry) := of_none _ rfl

theorem listenEnd : Statement (.listenEnd) := of_none _ rfl

theorem shedHoldEnd : Statement (.shedHoldEnd) := of_none _ rfl

theorem shedResend : Statement (.shedResend) := of_none _ rfl

theorem attemptStart (kind : StartKind) (elapsed : Nat) : Statement (.attemptStart kind elapsed) := of_none _ rfl

theorem lostArbitration (cell : Nat) : Statement (.lostArbitration cell) := of_none _ rfl

theorem driverFault (found : Mismatch) : Statement (.driverFault found) := of_none _ rfl

theorem stationConflict (cell : Nat) : Statement (.stationConflict cell) := of_none _ rfl

theorem heardNoticeJudged (heard : Heard) : Statement (.heardNoticeJudged heard) := of_none _ rfl

theorem noticeComplete (dominant : Nat) (first : TakenFirst) : Statement (.noticeComplete dominant first) := of_none _ rfl

theorem noticeBroken (kind : BreakKind) : Statement (.noticeBroken kind) := of_none _ rfl

theorem lineFault (held : Held) : Statement (.lineFault held) := of_none _ rfl

theorem powerOnReset : Statement (.powerOnReset) := of_none _ rfl

theorem pinReset : Statement (.pinReset) := of_none _ rfl

theorem startEdge (elapsed : Nat) : Statement (.startEdge elapsed) := of_none _ rfl

theorem ownEchoCell : Statement (.ownEchoCell) := of_none _ rfl

theorem pinResetEnd : Statement (.pinResetEnd) := of_none _ rfl

theorem powerOnResetEnd : Statement (.powerOnResetEnd) := of_none _ rfl

end Sys2Proof.Laws.F
end

