-- ==== Sys2Proof/Tests/Slice0.lean ====
section
/-! SUPPORT. Small tests, one step each, with the expected values taken from the manual's tables and worked examples;
the smoke of the well-formedness check; and for every statement with hypotheses a witness that meets them. The tests
are elaborated one after another, so that their kernel checks do not run side by side. -/

namespace Sys2Proof.Tests

open Sys2Proof Sys2Proof.Machine Sys2Proof.Safety

set_option Elab.async false

/-! ### Small states -/

/-- The state a step leads to. -/
def after (i : Instr) (s : State) : State :=
  match exec i s with
  | .next t => t
  | _ => s

/-- Every step answers a next state. -/
theorem exec_after (i : Instr) (s : State) : exec i s = .next (after i s) := by
  cases i <;> rfl

/-- The settings of the small states: station 7, every weight 5. -/
def settings7 : Settings := { Settings.reset with stationNumber := 7, weight := Vector.replicate 8 5 }

/-- Station 7 in a running state, at slice 10 of frame 40. -/
def running (st : StationState) : State :=
  { State.reset with
    station := st
    settings := settings7
    timer := ⟨true, 10, 40, false, 0⟩
    supply := ⟨.normal, 0, false, 200⟩ }

/-- A transaction open in phase COMMAND. -/
def atPort (s : State) : State :=
  { s with host := { s.host with csLow := true, sdoDriven := true, phase := .command } }

/-- A Table Unit job running, nothing waiting. -/
def inJob (j : Job) (s : State) : State := { s with unit := { s.unit with job := some j } }

/-- A channel HELD and live over slices 8 to 15. -/
def held8 : Channel :=
  { Channel.reset with
    state := .held, window := some ⟨8, 8⟩, attempts := 1, live := true
    outcome := .granted, outcomeWindow := some ⟨8, 8⟩, fresh := true }

/-- A channel CLAIMING slices 8 to 15. -/
def claiming8 : Channel := { Channel.reset with state := .claiming, window := some ⟨8, 8⟩, attempts := 1 }

/-- A channel PLACING, from slice 40, 16 slices. -/
def placing40 : Channel :=
  { Channel.reset with state := .placing, mode := .fromMode, reqStart := 40, reqLen := 16 }

/-- A peer of a number, marked or not. -/
def peer (n : Nat) (awaiting : Bool) : Peer := ⟨n, 5, none, false, awaiting⟩

/-- A book with its map as Book.put makes it, entry by entry from position 0. -/
def bookOf (es : List Entry) : Book := es.foldl (fun b e => (b.add e).getD b) Book.empty

/-- A book with every position taken. -/
def fullBook : Book := ⟨Vector.replicate 96 (some ⟨1, 0, ⟨60, 1⟩, 1, .held⟩), Vector.replicate 64 ⟨0, 0⟩⟩

/-! ### Well-formed terms -/

theorem test_unknown_command_names_none : Instr.wellFormed (.unknownCommand 0x11) = false := by decide
theorem test_unknown_command_accepted : Instr.wellFormed (.unknownCommand 0x10) = true := by decide
theorem test_arbitration_not_in_start_cell : Instr.wellFormed (.lostArbitration 1) = false := by decide
theorem test_arbitration_not_in_payload : Instr.wellFormed (.lostArbitration 10) = false := by decide
theorem test_conflict_not_in_sender : Instr.wellFormed (.stationConflict 9) = false := by decide
theorem test_driver_fault_needs_a_cell : Instr.wellFormed (.driverFault ⟨0, some 3⟩) = false := by decide
theorem test_driver_fault_never_low : Instr.wellFormed (.driverFault ⟨2, none⟩) = false := by decide
theorem test_echo_cell_has_an_edge : Instr.wellFormed (.noticeComplete 0 .cause) = false := by decide
theorem test_echo_cell_within_2T : Instr.wellFormed (.noticeComplete 9 .cause) = false := by decide
theorem test_no_station_0 : Instr.wellFormed (.peerLoss 0) = false := by decide
theorem test_no_station_33 : Instr.wellFormed (.peerLoss 33) = false := by decide

/-! ### Formats: R182, R183, Tables 3-2, 12-3 -/

/-- The worked CLAIM of R182: kind 011, sender 01011, channel 010, start 110000, length 001111, weight 011001. -/
theorem test_claim_layout :
    (Notice.claim 2 ⟨48, 16⟩ 25).coveredCells 12 =
      [false, true, true, false, true, false, true, true, false, true, false, true, true, false, false, false, false,
        false, false, true, true, true, true, false, true, true, false, false, true] := by decide

/-- The worked SYNC of R182: kind 000, sender 00010, frame 00101001. -/
theorem test_sync_layout :
    (Notice.sync 41).coveredCells 3 =
      [false, false, false, false, false, false, true, false, false, false, true, false, true, false, false,
        true] := by decide

/-- The SHED of the example of section 6.10: kind 001, sender of station 7 00110. -/
theorem test_shed_layout :
    Notice.shed.coveredCells 7 = [false, false, true, false, false, true, true, false] := by decide

theorem test_claim_heard : decodeNotice ((Notice.claim 2 ⟨48, 16⟩ 25).cells 12) = .good 12 (.claim 2 ⟨48, 16⟩ 25) := by
  decide +kernel

/-- A weight field of 0 is malformed (R79). -/
theorem test_weight_0_malformed : decodeNotice ((Notice.claim 2 ⟨48, 16⟩ 0).cells 12) = .malformedFields := by
  decide +kernel

/-- Kind 6 is a malformed header (R79). -/
theorem test_kind_6_malformed : decodeNotice [true, true, false] = .malformedHeader := by decide

/-- REQUEST channel 4 FROM 40, 16 slices: 0x41 and its four bytes, and a byte after them ignored (R163, R164). -/
theorem test_request_bytes :
    decodeTransaction [0x41, 4, 1, 40, 16, 0x11] = some (.request 4 1 40 16) := by decide

/-- Three of the four parameter bytes are no command yet (R167). -/
theorem test_partial_request : decodeTransaction [0x41, 4, 1, 40] = none := by decide

theorem test_write_event_mask_bytes : decodeTransaction [0x13, 1, 2] = some (.writeEventMask 1 2) := by decide

/-- Table 3-2: at LINE_RATE 0 the smallest SLICE_LENGTH that JOIN accepts is 3. -/
theorem test_smallest_slice_length :
    (List.range 8).filter (fun l => decide (1024 * bitMicros 0 ≤ 64 * sliceMicros l)) = [3, 4, 5, 6, 7] := by decide

/-- The candidate counts of R27: FROM 40 length 16 has 49, FROM 60 length 8 has 57. -/
theorem test_from_counts : (fromStarts 40 16).length = 49 ∧ (fromStarts 60 8).length = 57 := by decide +kernel

/-- The trip and release levels of R150: threshold 8 gives 0.800 V and 0.825 V. -/
theorem test_levels : tripLevel 8 = 800 ∧ releaseLevel 8 = 825 := by decide

/-! ### Placement: the worked example of section 2.7 -/

/-- Station 21's table, with other stations' entries that give the map of the example. -/
def book21 : Book := bookOf
  [⟨1, 0, ⟨0, 8⟩, 30, .held⟩, ⟨2, 0, ⟨8, 20⟩, 10, .held⟩, ⟨3, 0, ⟨36, 12⟩, 20, .held⟩, ⟨4, 0, ⟨48, 16⟩, 32, .held⟩,
    ⟨21, 1, ⟨20, 8⟩, 20, .claiming⟩]

def station21 : State :=
  { running .joined with
    settings := { settings7 with stationNumber := 21, budget := 40, weight := Vector.replicate 8 12 }
    book := book21 }.setChan 4 placing40

/-- The job takes start 28, the 38th candidate. -/
theorem test_placement_start : station21.placementWindow 4 = some ⟨28, 16⟩ := by decide +kernel

theorem test_placement_whole :
    let t := after (.placement .whole) station21
    (t.chan 4).state = .claiming ∧ (t.chan 4).attempts = 1 ∧ t.txQueue = [⟨.claim 4 ⟨28, 16⟩ 12, 0, false⟩] := by
  decide +kernel

/-! ### Evaluation: the two claims of section 1.3 -/

def station5 : State :=
  inJob (.evaluate ⟨false, 14, .claim 0 ⟨15, 8⟩ 12⟩)
    ({ running .joined with
        settings := { settings7 with stationNumber := 5, budget := 30, weight := Vector.replicate 8 10 }
        book := bookOf [⟨9, 2, ⟨10, 10⟩, 18, .held⟩, ⟨5, 1, ⟨12, 6⟩, 10, .claiming⟩] }.setChan 1
      { claiming8 with window := some ⟨12, 6⟩ })

/-- The heard claim fits, takes position 2, and its sender gets a record with PEER_NEW. -/
theorem test_heard_claim :
    let t := after (.evaluate .finish) station5
    t.book.entry 2 = some ⟨14, 0, ⟨15, 8⟩, 12, .held⟩ ∧ t.peers = [⟨14, 0, none, false, false⟩] ∧
      t.events.isSet .peerNew = true ∧ (t.book.map.get 15).committed = 30 := by
  decide +kernel

/-- The own claim is then void: slice 15 gives 40. -/
theorem test_own_claim_void :
    let t := after (.evaluate .whole)
      { after (.evaluate .finish) station5 with rxQueue := [⟨true, 5, .claim 1 ⟨12, 6⟩ 10⟩] }
    (t.chan 1).state = .placing ∧ (t.chan 1).attempts = 2 ∧ t.book.entry 1 = none ∧
      (t.book.map.get 12) = ⟨18, 0⟩ := by
  decide +kernel

/-! ### One step each, from the manual's tables and examples -/

/-- A LOW sample in NORMAL at the default threshold 20: below 1.100 V qualifies (R150, R152). -/
theorem test_sample_first : (after (.freeRunningSamplerTick 1099) State.reset).supply.history = 1 := by decide

theorem test_sample_at_the_trip_level_is_plain :
    (after (.freeRunningSamplerTick 1100) State.reset).supply.history = 0 := by decide

/-- The end of slice 62 begins slice 63 (R40). -/
theorem test_slice_62_ends :
    (after (.sliceBoundary 2000) { running .joined with timer := ⟨true, 62, 40, false, 0⟩ }).timer.slice = 63 := by
  decide +kernel

/-- Frame expiry in JOINED at frame 255 holds with a SYNC for frame 0 (R42). -/
theorem test_expiry_joined :
    let t := after (.frameExpiry 2000) { running .joined with timer := ⟨true, 63, 255, false, 0⟩ }
    t.timer = ⟨true, 63, 255, true, 0⟩ ∧ t.txQueue = [⟨.sync 0, 0, false⟩] := by decide +kernel

/-- Frame expiry in LISTENING begins the next frame, with its frame start (R41, R48). -/
theorem test_expiry_listening :
    let t := after (.frameExpiry 2000)
      { running .listening with timer := ⟨true, 63, 255, false, 0⟩, listenCount := 24 }
    t.timer = ⟨true, 0, 0, false, 1⟩ ∧ t.listenCount = 23 := by decide +kernel

/-- A hold tick with no SYNC left places a new one (R43). -/
theorem test_hold_tick :
    (after (.holdTick 2000) { running .joined with timer := ⟨true, 63, 40, true, 0⟩ }).txQueue =
      [⟨.sync 41, 0, false⟩] := by decide +kernel

/-- Step 5 of section 5.7: SHED_NOW puts its SHED at the head where there is no SYNC. -/
theorem test_shed_now_queue :
    (after .shedNow (atPort { running .joined with
      txQueue := [⟨.release 1, 1, false⟩, ⟨.claim 4 ⟨8, 8⟩ 5, 0, false⟩, ⟨.summary, 0, false⟩] })).txQueue =
      [⟨.shed, 0, false⟩, ⟨.release 1, 1, false⟩, ⟨.claim 4 ⟨8, 8⟩ 5, 0, false⟩, ⟨.summary, 0, false⟩] := by
  decide +kernel

/-- Station 7 of section 9.11: SHED_HOLD 4 and the supply LOW give hold 4 and re-send 2; channel 1 is suspended. -/
theorem test_local_sag :
    let t := after (.sliceBoundary 1000) (({ running .joined with
      settings := { settings7 with shedHold := 4, sheddable := (Vector.replicate 8 true).set 5 false }
      supply := ⟨.normal, 1, false, 200⟩ }.setChan 1 held8).setChan 5 held8)
    t.supply.state = .low ∧ t.shed = ⟨.shedding, 4, 2⟩ ∧ t.driven.get 1 = false ∧ t.driven.get 5 = true ∧
      t.events.isSet .shedStart = true := by decide +kernel

/-- The re-send count of section 9.11 at frame start 12: placed again, count 2. -/
theorem test_shed_resend :
    let t := after .shedResend { running .joined with
      settings := { settings7 with shedHold := 4 }
      supply := ⟨.low, 0, false, 200⟩
      shed := ⟨.shedding, 4, 0⟩ }
    t.shed.resend = 2 ∧ t.txQueue = [⟨.shed, 0, false⟩] := by decide +kernel

theorem test_shed_hold_end :
    let t := after .shedHoldEnd { running .joined with shed := ⟨.shedding, 0, 0⟩ }
    t.shed = ⟨.idle, 0, 0⟩ ∧ t.events.isSet .shedEnd = true := by decide +kernel

theorem test_listen_end :
    let t := after .listenEnd (running .listening)
    t.station = .joined ∧ t.txQueue = [⟨.summary, 0, false⟩] ∧ t.events.isSet .joinDone = true := by decide +kernel

theorem test_summary_timer_expiry :
    let t := after .summaryTimerExpiry { running .joined with summaryTimer := 8 }
    t.summaryTimer = 0 ∧ t.txQueue = [⟨.summary, 0, false⟩] := by decide +kernel

/-- Stations 3 and 7 of section 3.9: a SYNC of the same frame number in slice 1 raises SYNC_SLIP; from slice 63 and with
the next number it does not. -/
theorem test_sync_slip :
    let s (slice : Nat) : State := { running .joined with
      timer := ⟨true, slice, 41, false, 0⟩
      line := ⟨.judged (.accepted ⟨false, 12, .sync (if slice = 1 then 41 else 42)⟩), 0, 0⟩ }
    (after (.noticeComplete 3 .cause) (s 1)).events.isSet .syncSlip = true ∧
      (after (.noticeComplete 3 .cause) (s 1)).timer = ⟨true, 0, 41, false, 1⟩ ∧
      (after (.noticeComplete 3 .cause) (s 63)).events.isSet .syncSlip = false := by decide +kernel

/-- Station 3 of section 6.10: its CLAIM sends a 1 in cell 3 and loses; the count stays 0. -/
theorem test_lost_arbitration :
    let s := { running .joined with
      settings := { settings7 with stationNumber := 3 }
      txQueue := [⟨.claim 0 ⟨8, 8⟩ 5, 0, true⟩]
      line := ⟨.sending (.claim 0 ⟨8, 8⟩ 5), 0, 0⟩ }
    (after (.lostArbitration 3) s).txQueue = [⟨.claim 0 ⟨8, 8⟩ 5, 0, false⟩] ∧
      (after (.lostArbitration 3) s).line.phase = .decoding := by decide +kernel

/-- A driver fault in the start cell counts the attempt (R84, R105); where the line never went low, the gap of 10 T and
half a cell runs on, so that the next own start comes at once (R100, R101, and the stuck recessive line of R110). -/
theorem test_driver_fault :
    let s : State := { running .joined with txQueue := [⟨.leave, 0, false⟩], line := ⟨.idle, 3, 0⟩ }
    let t := after (.driverFault ⟨1, none⟩) (after (.attemptStart .own 37) s)
    t.txQueue = [⟨.leave, 1, false⟩] ∧ t.line = ⟨.idle, 42, 0⟩ ∧
      (after (.attemptStart .own 0) t).line.phase = .sending .leave := by
  decide +kernel

/-- Step 3 of section 5.7: unechoed with a peer known, the RELEASE stays with count 1. -/
theorem test_unechoed :
    (after (.noticeComplete 1 .cause) { running .joined with
      txQueue := [⟨.sync 41, 0, false⟩, ⟨.release 1, 0, true⟩]
      peers := [peer 3 false]
      line := ⟨.ownEcho (.release 1) true, 0, 0⟩ }).txQueue =
      [⟨.sync 41, 0, false⟩, ⟨.release 1, 1, false⟩] := by decide +kernel

/-- The gap from the end of the echo cell's dominant period (R108): 1/4 T at T after the edge when echoed for 3/4 T, 3/4 T
unechoed, and none where the dominant period ran past T. -/
theorem test_gap_after_the_echo_cell :
    let s (v : Verdict) : State := { running .joined with line := ⟨.judged v, 0, 0⟩ }
    (after (.noticeComplete 3 .cause) (s (.accepted ⟨false, 3, .leave⟩))).line = ⟨.idle, 1, 0⟩ ∧
      (after (.noticeComplete 1 .cause) (s .malformed)).line = ⟨.idle, 3, 0⟩ ∧
      (after (.noticeComplete 6 .cause) (s .malformed)).line = ⟨.idle, 0, 0⟩ := by decide +kernel

/-- A malformed header ends the decoding with the period the line is in counted (R100, R110); 10 T of recessive line then
make a start edge under R79 and R100 alike. -/
theorem test_malformed_header :
    let s : State := { running .listening with line := ⟨.decoding, 0, 0⟩ }
    (after (.heardNoticeJudged ⟨[true, true, false], .recessive 2⟩) s).line = ⟨.skipping, 2, 0⟩ ∧
      (after (.heardNoticeJudged ⟨[true, true, false], .dominant 2⟩) s).line = ⟨.skipping, 0, 2⟩ := by decide +kernel

/-- Ten bit times after a malformed header the next edge begins a notice, whichever of R79 and R100 is followed. -/
theorem test_start_after_a_malformed_header :
    (after (.startEdge 38) { running .listening with line := ⟨.skipping, 2, 0⟩ }).line = ⟨.decoding, 0, 0⟩ := by
  simp [after, exec, execStartEdge, State.fallingEdge, LineInterface.isIdle, LineInterface.startGap,
    StationState.running, running, State.offers, StationState.sends, Config.idleGapQuarters, Config.startEdgeQuarters]
  split <;> rfl

/-- The fourth unechoed attempt is taken as delivered, with WITNESS_FAIL (R86). -/
theorem test_witness_fail :
    let t := after (.noticeComplete 1 .cause) { running .joined with
      txQueue := [⟨.release 1, 3, true⟩]
      peers := [peer 3 false]
      line := ⟨.ownEcho (.release 1) true, 0, 0⟩ }
    t.txQueue = [] ∧ t.rxQueue = [⟨true, 7, .release 1⟩] ∧ t.events.isSet .witnessFail = true := by decide +kernel

/-- A broken SYNC is removed and a new one placed in a hold (R43, R85). -/
theorem test_broken_sync :
    (after (.noticeBroken .recessive) { running .joined with
      timer := ⟨true, 63, 40, true, 0⟩
      txQueue := [⟨.sync 41, 0, true⟩]
      line := ⟨.sending (.sync 41), 0, 0⟩ }).txQueue = [⟨.sync 41, 0, false⟩] := by decide +kernel

/-- 128 T dominant is a line fault, a quarter less is not, and a return to recessive clears the timer (R110). -/
theorem test_line_fault :
    let s : State := { running .joined with line := ⟨.idle, 0, 8⟩ }
    (after (.lineFault (.on 504)) s).station = .halted ∧ (after (.lineFault (.on 503)) s).station = .joined ∧
      (after (.lineFault (.anew 512)) s).station = .halted ∧ (after (.lineFault (.anew 511)) s).station = .joined ∧
      (after (.lineFault (.anew 3)) s).line.faultTimer = 3 := by decide +kernel

/-- A sweep loses its peers in ascending station number, 3 before 9 (R19). -/
theorem test_peer_loss_in_turn :
    let s := inJob (.sweep false) { running .joined with
      peers := [⟨3, 24, none, false, false⟩, ⟨9, 24, none, false, false⟩] }
    after (.peerLoss 9) s = s ∧ (after (.peerLoss 3) s).peers = [⟨9, 24, none, false, false⟩] ∧
      (after (.peerLoss 9) (after (.peerLoss 3) s)).peers = [] := by decide +kernel

/-- 9 T of recessive line make a start edge; short of it the edge is noise (R100). -/
theorem test_start_edge :
    (after (.startEdge 36) (running .listening)).line.phase = .decoding ∧
      (after (.startEdge 35) (running .listening)).line = ⟨.idle, 0, 0⟩ := by decide +kernel

/-- An own start waits for 10 T, and a SUMMARY captures the HELD channels (R78, R101). -/
theorem test_attempt_start :
    let s := { running .joined with txQueue := [⟨.summary, 0, false⟩] }.setChan 2 held8
    (after (.attemptStart .own 40) s).line.phase = .sending (.summary 64 [⟨2, ⟨8, 8⟩, 5⟩]) ∧
      (after (.attemptStart .own 39) s).line.phase = .idle := by decide +kernel

theorem test_own_echo_cell_full :
    (after .ownEchoCell { running .joined with
      rxQueue := List.replicate 4 ⟨false, 3, .shed⟩
      line := ⟨.sending .shed, 0, 0⟩ }).line.phase = .ownEcho .shed false := by decide +kernel

/-- The own number in a good heard notice halts the station (R92). -/
theorem test_own_number_heard :
    let t := after (.heardNoticeJudged ⟨Notice.shed.cells 7, .recessive 0⟩) { running .joined with line := ⟨.decoding, 0, 0⟩ }
    t.station = .halted ∧ t.haltCause = .stationConflict ∧ t.events.isSet .halted = true := by decide +kernel

/-- A payload mismatch in an own attempt halts the station (R104): cell 10 of SYNC 128 is a 1. -/
theorem test_station_conflict :
    (after (.stationConflict 10) { running .joined with
      txQueue := [⟨.sync 128, 0, true⟩], line := ⟨.sending (.sync 128), 0, 0⟩ }).haltCause = .stationConflict := by
  decide +kernel

theorem test_join : (after .join (atPort { State.reset with settings := settings7 })).station = .listening := by
  decide +kernel

theorem test_join_number_0_is_bad_setting :
    (after .join (atPort State.reset)).host.response = some ⟨.plain, [], .badSetting⟩ := by decide +kernel

theorem test_leave_unjoined :
    (after .leave (atPort State.reset)).host.response = some ⟨.plain, [], .wrongState⟩ := by decide +kernel

/-- The serial clock run for some steps. -/
def clockedTo (n : Nat) (s : State) : State := (clocked n s).getD s

/-- The bytes SDO gives in the next `n` bytes of a response. -/
def bytesOut : Nat → State → List (Option Byte)
  | 0, _ => []
  | n + 1, s => (clockedTo 1 s).sdoByte :: bytesOut n (clockedTo 2 s)

/-- READ_STATUS after reset: ten fields of zeros, formed at its marker, and OK (R165, R166, R175). -/
theorem test_read_status_after_reset :
    bytesOut 13 (after .readStatus (atPort State.reset)) =
      some 0x5A :: List.replicate 12 (some 0x00) := by decide +kernel

/-- CH_WEIGHT of channel 7 has identifier 0x17 (Table 12-4). -/
theorem test_write_setting_weight :
    (after (.writeSetting 0x17 0 63) (atPort State.reset)).settings.weight.get 7 = 63 := by decide +kernel

theorem test_write_setting_out_of_range :
    (after (.writeSetting 0x17 0 64) (atPort State.reset)).host.response = some ⟨.plain, [], .badParameter⟩ := by
  decide +kernel

/-- The ready marker of NOP, its result byte, filler (R165). -/
theorem test_nop_bytes :
    bytesOut 3 (after .nop (atPort State.reset)) = [some 0x5A, some 0x00, some 0x00] := by decide +kernel

/-- REQUEST busy, then ready: busy markers until its HOST job has ended (R165, R166). -/
theorem test_busy_bytes :
    let s := after (.request 4 1 40 16) (atPort (running .joined))
    let t := after (.hostJob .whole) (clockedTo 1 s)
    bytesOut 2 s = [some 0xC3, some 0xC3] ∧ t.sdoByte = some 0xC3 ∧
      bytesOut 2 (clockedTo 1 t) = [some 0x5A, some 0x00] := by decide +kernel

/-- The bytes of REQUEST channel 4 FROM 40, 16 slices, come in bit by bit, most significant first, while SDO gives 0x00
(R163, R164, R183). -/
theorem test_request_shifted_in :
    let s : State := { atPort (running .joined) with serial := ⟨[
      false, true, false, false, false, false, false, true, false, false, false, false, false, true, false, false,
      false, false, false, false, false, false, false, true, false, false, true, false, true, false, false, false,
      false, false, false, true, false, false, false, false], none, 0⟩ }
    s.sdoByte = some 0x00 ∧ (clockedTo 1 s).host.phase = .parameters [0x41] ∧ (clockedTo 4 s).sdoByte = some 0x00 ∧
      (clockedTo 5 s).host.current = some ⟨.request 4 1 40 16, false⟩ ∧ (clockedTo 5 s).host.phase = .waiting := by
  decide +kernel

/-- After SOFT_RESET the rest of the transaction is 0x00, and no marker comes (R149, R170). -/
theorem test_filler_after_soft_reset :
    let t := after .softReset (atPort (running .joined))
    bytesOut 2 t = [some 0x00, some 0x00] ∧ t.host.phase = .closed := by decide +kernel

/-- The outcome byte of a fresh GRANTED is 0x81 (R183); its bits go out most significant first, and its end clears the
fresh mark (R72). -/
theorem test_read_channel_bytes :
    let s := after (.readChannel 2) (atPort ((running .joined).setChan 2 held8))
    bytesOut 9 s = [some 0x5A, some 3, some 8, some 8, some 1, some 0x81, some 8, some 8, some 0] ∧
      (clockedTo 11 s).sdoBits = some [true, false, false, false, false, false, false, true] ∧
      ((clockedTo 11 s).chan 2).fresh = true ∧ ((clockedTo 12 s).chan 2).fresh = false := by decide +kernel

/-- An event raised behind a READ_EVENTS that waits behind its busy marker is in its flags (R166, R179). -/
theorem test_flags_at_the_marker :
    let s := State.raise .desync (after .readEvents (atPort (running .joined)))
    bytesOut 4 s = [some 0x5A, some 0x20, some 0x00, some 0x00] ∧ (clockedTo 4 s).events.flags = 0 := by
  decide +kernel

theorem test_soft_reset_keeps_settings :
    let t := after .softReset (atPort (running .joined))
    t.station = .unjoined ∧ t.settings = settings7 := by decide +kernel

theorem test_pin_reset_clears_settings : (after .pinReset (running .joined)).settings = Settings.reset := by
  decide +kernel

/-- A request accepted by its HOST job makes the channel PLACING (R55). -/
theorem test_request_job :
    ((after (.hostJob .whole) (after (.request 4 1 40 16) (atPort (running .joined)))).chan 4) = placing40 := by
  decide +kernel

theorem test_placement_refused_no_entry :
    let t := after (.placement .finish) (inJob (.placement 4) ({ running .joined with
      settings := { settings7 with budget := 4095 }, book := fullBook }.setChan 4 placing40))
    (t.chan 4).state = .idle ∧ (t.chan 4).outcome = .refusedNoEntry := by decide +kernel

theorem test_sweep_loses_a_silent_peer :
    let t := after (.sweep .whole) { running .joined with
      timer := ⟨true, 10, 40, false, 1⟩
      peers := [⟨3, 22, none, false, false⟩, ⟨9, 23, none, false, false⟩] }
    t.peers = [⟨3, 23, none, false, false⟩] ∧ t.events.isSet .peerGone = true := by decide +kernel

/-! ### Witnesses: for every statement with hypotheses, states and operands that meet them -/

/-- A HOST job of a command running, its transaction open and its response awaited. -/
def hostJob (cmd : HostCmd) (s : State) : State :=
  let s := inJob (.host ⟨cmd, false⟩) (atPort s)
  { s with host := { s.host with phase := .waiting, current := some ⟨cmd, false⟩ } }

/-- An EVALUATE job of a heard, or own, notice. -/
def evaluating (own : Bool) (n : Notice) (s : State) : State := inJob (.evaluate ⟨own, if own then 7 else 3, n⟩) s

/-- A response in the open transaction. -/
def responding (r : Response) (s : State) : State :=
  { atPort s with host := ⟨true, true, .response, none, none, some r⟩ }

/-- The own grant of channel 2 over slices 8 to 15, and a peer's entry over 20 to 23. -/
def busyBook : Book := bookOf [⟨7, 2, ⟨8, 8⟩, 5, .held⟩, ⟨3, 0, ⟨20, 4⟩, 6, .held⟩]

/-- Station 7 in JOINED with channel 2 driven, one peer, and a slice boundary to come. -/
def busy : State :=
  { (running .joined).setChan 2 held8 with
    book := busyBook
    peers := [peer 3 false]
    grants := [2]
    driven := (Vector.replicate 8 false).set 2 true
    pending := [.sliceBoundary 2000] }

theorem busy_entry (p : Fin 96) : busyBook.entry p =
    if p = 0 then some ⟨7, 2, ⟨8, 8⟩, 5, .held⟩ else if p = 1 then some ⟨3, 0, ⟨20, 4⟩, 6, .held⟩ else none := by
  revert p; decide +kernel

theorem busy_map : MapMatches busy.book := by unfold MapMatches; decide +kernel

theorem busy_entries : EntriesLegal busy := by
  refine ⟨?_, ?_, ?_, ?_, ?_, ?_, ?_⟩
  · intro p q e he f hf
    change busyBook.entry p = some e at he
    change busyBook.entry q = some f at hf
    rw [busy_entry] at he hf
    repeat' split at he
    all_goals repeat' split at hf
    all_goals simp_all
    all_goals subst he hf; simp
  · intro p e he
    change busyBook.entry p = some e at he
    rw [busy_entry] at he
    repeat' split at he
    all_goals simp at he
    all_goals subst he; unfold EntryMatches; decide +kernel
  · intro c hc
    have h : c = 2 := by revert c; decide +kernel
    exact ⟨0, ⟨7, 2, ⟨8, 8⟩, 5, .held⟩, busy_entry 0, rfl, h.symm⟩
  · unfold PlacementServes; decide +kernel
  · decide +kernel
  · decide +kernel
  · decide +kernel

/-- A busy station is sound, and it steps: the premises of every invariant are met. -/
theorem test_witness_invariants : Sound busy ∧ ∃ t, step busy = .next t := by
  refine ⟨⟨busy_map, busy_entries, ?_, ?_, ?_, ?_, ?_, ?_, ?_, ?_, ?_, ?_, ?_, ?_, ?_⟩,
    after (.sliceBoundary 2000) { busy with pending := [] },
    exec_after (.sliceBoundary 2000) { busy with pending := [] }⟩
  · unfold PeersLegal; decide +kernel
  · unfold ResyncLegal; decide +kernel
  · unfold OutputsSafe MayDrive PlacementServes; decide +kernel
  · unfold ChannelsLegal RecordLegal PlacementServes; decide +kernel
  · unfold GrantsLegal PlacementServes; decide +kernel
  · unfold TransmitLegal; decide +kernel
  · unfold ChannelNoticesLegal PlacementServes; decide +kernel
  · unfold ReceiveLegal; decide +kernel
  · refine ⟨by decide, by decide, by decide, by decide, by decide, by decide, ?_, trivial⟩
    intro i hi
    cases hi
  · exact ⟨⟨rfl, rfl⟩, by decide +kernel⟩
  · unfold SettingsLegal; decide +kernel
  · unfold StationLegal; decide +kernel
  · intro h; cases h

/-- EachChannelHasOneNotice: a CLAIM in an attempt, a RELEASE delivered, and a withdrawal that waits, each of its own
channel, in a queue with a SYNC. -/
theorem test_witness_channel_notices :
    let s : State := { (((running .joined).setChan 1 claiming8).setChan 2 { held8 with
          state := .releasing, live := false }).setChan 3 claiming8 with
      txQueue := [⟨.sync 41, 0, false⟩, ⟨.claim 1 ⟨8, 8⟩ 5, 0, true⟩]
      line := ⟨.sending (.claim 1 ⟨8, 8⟩ 5), 0, 0⟩
      rxQueue := [⟨true, 7, .release 2⟩]
      unit := ⟨some (.sweep false), [3], false, false, ⟨0, 0, 0⟩⟩ }
    ChannelNoticesLegal s ∧ TransmitLegal s ∧ ownChannelNotices s = [(1, .claiming), (2, .releasing)] := by
  unfold ChannelNoticesLegal PlacementServes TransmitLegal
  decide +kernel

/-- QueueSettingsAndFlagsStandAndOnlyLineReportsHalt: a step that ends in LISTENING with every flag set before it. -/
theorem test_witness_standing :
    let s := atPort { State.reset with settings := settings7, events := ⟨0xFFFF, 0, 0⟩ }
    exec .join s = .next (after .join s) ∧ (after .join s).station = .listening ∧ s.events.isSet .joinDone = true ∧
      s.events.isSet .halted = true :=
  ⟨exec_after _ _, by decide +kernel⟩

/-- QueueSettingsAndFlagsStandAndOnlyLineReportsHalt, HaltsDropEverything: the ways to halt, each at its boundary. -/
theorem test_witness_halts :
    let conflict : State := { running .joined with line := ⟨.sending (.sync 128), 0, 0⟩ }
    let hearing : State := { running .joined with line := ⟨.decoding, 0, 0⟩ }
    Halts (running .joined) (.lineFault (.on 512)) .lineFault ∧ Halts (running .joined) (.lineFault (.anew 512)) .lineFault ∧
      (running .joined).host.waitingCommand = none ∧
      (after (.lineFault (.on 512)) (running .joined)).station = .halted ∧
      (Notice.cells conflict.settings.stationNumber (.sync 128))[10 - 2]? = some true ∧
      (after (.stationConflict 10) conflict).station = .halted ∧
      HasCells .shed ∧ Notice.wellFormed .shed = true ∧
      (after (.heardNoticeJudged ⟨Notice.cells hearing.settings.stationNumber .shed ++ [], .dominant 1⟩) hearing).station =
        .halted :=
  ⟨⟨rfl, .inl ⟨512, rfl, rfl, by decide⟩⟩, ⟨rfl, .inr (.inl ⟨512, rfl, rfl, by decide⟩)⟩, by decide +kernel,
    by decide +kernel, by decide +kernel, by decide +kernel, trivial, rfl, by decide +kernel⟩

/-- WaitingCommandsMeetAHaltOrALeave: a REQUEST and a RELEASE that wait at the port, a held one with a command latched
behind it, and a held table read; at a line fault, and at the completion of a leave. -/
theorem test_witness_halt_answers :
    let s := hostJob (.request 8 0 0 1) (running .joined)
    let u := hostJob (.release 7) (running .joined)
    let latched : State := { running .joined with
      host := ⟨true, true, .waiting, some ⟨.readStatus, false⟩, some ⟨.release 7, false⟩, none⟩ }
    let read : State := { running .joined with host := ⟨false, false, .closed, none, some ⟨.readMap 0 1, false⟩, none⟩ }
    let leaves := evaluating true .leave (running .leaving)
    Halts s (.lineFault (.on 512)) .lineFault ∧ CompletesLeave leaves (.evaluate .finish) ∧
      (s.host.held = none ∧ s.host.response = none ∧ s.host.current = some ⟨.request 8 0 0 1, false⟩ ∧
        u.host.current = some ⟨.release 7, false⟩ ∧ s.hostJobRuns = true ∧
        { s with unit := TableUnit.free }.hostJobRuns = false) ∧
      ((after (.lineFault (.on 512)) s).host.response = some ⟨.plain, [], .wrongState⟩ ∧
        (after (.lineFault (.on 512)) { s with unit := TableUnit.free }).host.response = some ⟨.plain, [], .badParameter⟩ ∧
        (after (.lineFault (.on 512)) latched).host.held = none ∧
        (after (.lineFault (.on 512)) latched).host.response = some ⟨.unformed, [], .ok⟩ ∧
        (after (.lineFault (.on 512)) read).host = read.host) :=
  ⟨⟨rfl, .inl ⟨512, rfl, rfl, by decide⟩⟩, ⟨rfl, 7, rfl⟩, by decide +kernel, by decide +kernel⟩

/-- OutputsComeOnOnlyAtBoundaries: channel 2 comes on at the boundary into slice 8, and channel 3 at the completion of a
SYNC. -/
theorem test_witness_output_comes_on :
    let s := { running .joined with timer := ⟨true, 7, 40, false, 0⟩ }.setChan 2 held8
    let u := { running .joined with
      timer := ⟨true, 63, 40, true, 0⟩
      line := ⟨.judged (.accepted ⟨false, 3, .sync 41⟩), 0, 0⟩ }.setChan 3 { held8 with window := some ⟨0, 4⟩ }
    s.driven.get 2 = false ∧ (after (.sliceBoundary 2000) s).driven.get 2 = true ∧ u.driven.get 3 = false ∧
      (after (.noticeComplete 3 .cause) u).driven.get 3 = true := by decide +kernel

/-- HostCommandBytesRoundTrip. -/
theorem test_witness_bytes :
    Instr.wellFormed (.unknownCommand 0x62) = true ∧ encodeTransaction (.unknownCommand 0x62) = some [0x62] ∧
      encodeTransaction (.writeSetting 4 0x0F 0xFF) = some [0x22, 4, 0x0F, 0xFF] := by decide

/-- NoticeCellsRoundTrip and HeardNoticesAreJudgedRowByRow: notices at the ends of their fields. -/
theorem test_witness_has_cells :
    HasCells (.sync 255) ∧ HasCells (.claim 7 ⟨0, 64⟩ 63) ∧ Notice.wellFormed (.claim 7 ⟨0, 64⟩ 63) = true ∧
      HasCells (.claim 0 ⟨63, 64⟩ 0) ∧ Notice.wellFormed (.claim 0 ⟨63, 64⟩ 0) = false ∧
      HasCells (.summary 4095 ((List.finRange 8).map fun c => ⟨c, ⟨0, 1⟩, 63⟩)) := by
  refine ⟨by simp [HasCells], by simp [HasCells, ListedHasCells], by decide, by simp [HasCells, ListedHasCells],
    by decide, by decide, by decide, ?_⟩
  intro l hl
  simp only [List.mem_map] at hl
  obtain ⟨c, _, rfl⟩ := hl
  simp [ListedHasCells]

/-- HeardNoticesAreJudgedRowByRow, CrcIsFormedCellByCell: each row of Table 5-5 met. -/
theorem test_witness_judged :
    let s : State := { running .joined with line := ⟨.decoding, 0, 0⟩ }
    let full : State := { s with rxQueue := List.replicate 4 ⟨false, 3, .shed⟩ }
    let zeros := List.replicate 16 false
    let judged (cells : List Bool) (u : State) : LinePhase :=
      (after (.heardNoticeJudged ⟨cells, .recessive 8⟩) u).line.phase
    s.station.running = true ∧ zeros ≠ crcCells (Notice.shed.coveredCells 3) ∧ field 0 3 [true, true, false] = 6 ∧
      judged (Notice.shed.coveredCells 3 ++ zeros) s = .judged .crcFailure ∧
      judged (Notice.shed.cells 3) s = .judged (.accepted ⟨false, 3, .shed⟩) ∧
      judged (Notice.shed.cells 3) full = .judged (.overrun ⟨false, 3, .shed⟩) ∧
      judged ((Notice.shed.cells 3).take 23) s = .idle ∧
      (after (.heardNoticeJudged ⟨(Notice.shed.cells 3).take 23, .recessive 7⟩) s).line.phase = .decoding := by
  decide +kernel

/-- PortAnswersReadsAtOnce, MaskFlagsAndInvertDecideThePins, WriteSettingByItsChecks, JoinAndLeaveOffTheLine,
JobCommandsWaitAtThePort: a port that awaits its command, in every station state. -/
theorem test_witness_ready (st : StationState) : Ready (atPort (running st)) ∧ (atPort (running st)).station = st :=
  ⟨⟨rfl, rfl⟩, rfl⟩

/-- The identifiers at the ends of their groups. -/
theorem test_witness_identifiers :
    settingId 0x01 = some .stationNumber ∧ settingId 0x08 = some .supplyThreshold ∧ settingId 0x10 = some (.weight 0) ∧
      settingId 0x27 = some (.invert 7) ∧ settingId 0x00 = none ∧ settingId 0x09 = none ∧ settingId 0x28 = none ∧
      SettingId.inRange (256 * 0x0F + 0xFF) .budget = true ∧ SettingId.inRange (256 * 0x10 + 0) .budget = false ∧
      (7 : Byte).toNat = (7 : Chan).val ∧ 7 < (8 : Byte).toNat := by decide

/-- JoinAndLeaveOffTheLine: JOIN's checks at their boundaries. -/
theorem test_witness_join :
    let s := atPort { State.reset with settings := { settings7 with summaryInterval := 12, sliceLength := 2 } }
    let u := atPort { State.reset with settings := { settings7 with summaryInterval := 13 } }
    let v := atPort { State.reset with settings := { settings7 with sliceLength := 1 } }
    (2 * s.settings.summaryInterval ≤ s.settings.silenceLimit ∧
      1024 * bitMicros s.settings.lineRate ≤ 64 * (25 * 2 ^ s.settings.sliceLength)) ∧
      u.settings.silenceLimit < 2 * u.settings.summaryInterval ∧
      64 * (25 * 2 ^ v.settings.sliceLength) < 1024 * bitMicros v.settings.lineRate := by decide

/-- LeaveTakenOnTheLine: a hold with no SYNC, with and without a job. -/
theorem test_witness_leave :
    let s := atPort ({ running .desync with timer := ⟨true, 63, 40, true, 0⟩ }.setChan 4 placing40)
    Ready s ∧ s.station.online = true ∧ s.unit.job = none ∧ (s.chan 4).state = .placing ∧
      (inJob (.sweep false) s).unit.job ≠ none := by
  refine ⟨⟨rfl, rfl⟩, rfl, rfl, by decide +kernel, by decide +kernel⟩

/-- ResetsTakeTheirResetValues. -/
theorem test_witness_resets :
    (atPort (running .joined)).host.phase = .command ∧ (after .pinReset State.reset).resets.pin = true ∧
      (after .powerOnReset State.reset).resets.power = true ∧ State.reset.resets.pin = false ∧
      State.reset.host.csLow = false ∧ exec .powerOnReset State.reset = .next (after .powerOnReset State.reset) :=
  ⟨rfl, by decide +kernel, by decide +kernel, rfl, rfl, exec_after _ _⟩

/-- MaskFlagsAndInvertDecideThePins: CH_INVERT of channel 7 written moves LD7 to the deasserted level of its setting
(R68), which it keeps through SOFT_RESET and loses with a pin reset. -/
theorem test_witness_pins :
    let t := after (.writeSetting 0x27 0 1) (atPort State.reset)
    State.reset.ldHigh 7 = false ∧ t.ldHigh 7 = true ∧ t.ldHigh 6 = false ∧
      (after .softReset (atPort t)).ldHigh 7 = true ∧ (after .pinReset t).ldHigh 7 = false := by decide +kernel

/-- CommandBytesComeInOnTheSerialClock: bits at SDI in phases COMMAND and PARAMETERS, and too few of them. -/
theorem test_witness_bytes_in :
    let s (phase : HostPhase) (bits : List Bool) : State := { State.reset with
      host := { State.reset.host with csLow := true, sdoDriven := true, phase := phase }, serial := ⟨bits, none, 0⟩ }
    (s .command (byteBits 0x42)).pending = [] ∧ (s .command (byteBits 0x42)).host.sdoDriven = true ∧
      (clockedTo 1 (s .command (byteBits 0x42))).host.phase = .parameters [0x42] ∧
      (clockedTo 1 (s (.parameters [0x42]) (byteBits 7))).host.current = some ⟨.release 7, false⟩ ∧
      (clockedTo 1 (s .command [true, false])) = s .command [true, false] ∧
      encodeTransaction (.release 7) = some [0x42, 7] ∧
      (clockedTo 2 (s .command ([0x42, 7].flatMap byteBits ++ [true]))).serial.sdi = [true] := by decide +kernel

/-- ResponseBytesGoOutOnTheSerialClock: each phase with a byte to choose and with one in progress. -/
theorem test_witness_bytes_out :
    let s (phase : HostPhase) (r : Option Response) (out : Option Byte) (sent : Nat) : State := { State.reset with
      host := ⟨true, true, phase, some ⟨.readEvents, false⟩, none, r⟩, serial := ⟨[], out, sent⟩ }
    (clockedTo 1 (s .waiting none none 0)).sdoByte = some 0xC3 ∧
      (clockedTo 1 (s .waiting (some ⟨.unformed, [], .ok⟩) none 0)).host.response =
        some ⟨.events 0 0, [0, 0], .ok⟩ ∧
      (clockedTo 1 (s .response (some ⟨.plain, [7, 8], .ok⟩) none 2)).sdoByte = some 8 ∧
      (clockedTo 1 (s .response (some ⟨.plain, [7, 8], .badSetting⟩) none 3)).sdoByte = some 7 ∧
      (clockedTo 1 (s .response (some ⟨.plain, [7, 8], .ok⟩) (some 0) 4)).host.phase = .trailing ∧
      (clockedTo 1 (s .response (some ⟨.events 0 1, [7, 8], .ok⟩) (some 8) 3)).host.response =
        some ⟨.events 0 2, [7, 8], .ok⟩ ∧
      (clockedTo 1 (s .trailing none none 4)).sdoByte = some 0 ∧ State.reset.sdoBits = none := by decide +kernel

/-- TransactionsAreFramedByChipSelect, ReadToClearBytesLoseNothing: the responses at each point of their bytes. -/
theorem test_witness_responses :
    let s := atPort (running .joined)
    s.host.csLow = true ∧ (running .joined).host.csLow = false ∧ (0x62 : Byte).toNat ∉ commandCodes ∧
      (after .pinReset (running .joined)).inReset = true ∧
      (after .readEvents s).host.response = some ⟨.unformed, [], .ok⟩ ∧
      (clockedTo 1 (after .readEvents s)).host.response = some ⟨.events 0 0, [0, 0], .ok⟩ ∧
      (after .flagByteShifted (after .readEvents s)).host.response = some ⟨.events 0 1, [0, 0], .ok⟩ ∧
      (clockedTo 1 (after (.readChannel 7) s)).host.response =
        some ⟨.channel 7 false, [0, 0, 0, 0, 0, 0, 0], .ok⟩ ∧
      (after .outcomeByteShifted (after (.readChannel 7) s)).host.response =
        some ⟨.channel 7 true, [0, 0, 0, 0, 0, 0, 0], .ok⟩ := by decide +kernel

/-- LatchedCommandWaitsForTheHeldOne: a held READ_MAP in its job, alone and with a NOP latched behind it. -/
theorem test_witness_held :
    let t : Taken := ⟨.readMap 0 64, false⟩
    let s := inJob (.host t) { running .joined with host := ⟨false, false, .closed, none, some t, none⟩ }
    let u := inJob (.host t) { running .joined with host := ⟨true, true, .waiting, some ⟨.nop, false⟩, some t, none⟩ }
    Runs s (.host t) ∧ s.host.held = some t ∧ s.host.current = none ∧ s.host.phase ≠ .command ∧
      exec (.hostJob .finish) s = .next (after (.hostJob .finish) s) ∧ Runs u (.host t) ∧
      u.host.current = some ⟨.nop, false⟩ ∧ u.host.held ≠ none :=
  ⟨⟨rfl, rfl, rfl, rfl⟩, rfl, rfl, by decide, exec_after _ _, ⟨rfl, rfl, rfl, rfl⟩, rfl, by decide⟩

/-- RefusedCommandsChangeNothing: at the port and in a HOST job. -/
theorem test_witness_refused :
    let s := atPort State.reset
    let u := hostJob (.release 2) (running .joined)
    exec (commandStep .join) s = .next (after .join s) ∧
      (after .join s).host.response = some ⟨.plain, [], .badSetting⟩ ∧ Runs u (.host ⟨.release 2, false⟩) ∧
      (after (.hostJob .finish) u).host.response = some ⟨.plain, [], .notHeld⟩ :=
  ⟨exec_after .join _, by decide +kernel, ⟨rfl, rfl, rfl, rfl⟩, by decide +kernel⟩

/-- JobCommandsWaitAtThePort: the parameters at their boundaries. -/
theorem test_witness_parameters :
    ¬ badRequest 7 0 63 1 ∧ ¬ badRequest 0 1 63 64 ∧ badRequest 7 0 63 2 ∧ badRequest 8 1 0 1 ∧ badRequest 0 2 0 1 ∧
      badRequest 0 1 64 1 ∧ badRequest 0 1 0 0 ∧ badRequest 0 1 0 65 ∧
      (inJob (.placement 7) (atPort (running .joined))).unit.job = some (.placement 7) := by decide

/-- ShedCausesEnterOrRestartAShed: both shed states, on and off the line. -/
theorem test_witness_sheds :
    let s : State := { running .desync with shed := ⟨.shedding, 1, 0⟩ }
    OutputsSafe busy ∧ busy.station.online = true ∧ busy.shed.state = .idle ∧ s.station.online = true ∧
      s.shed.state = .shedding ∧ (running .leaving).station.online = false :=
  ⟨test_witness_invariants.1.2.2.2.2.1, by decide +kernel⟩

/-- MapMovesWithItsEntries, EntriesTakeTheLowestFreePosition: entries of two states; a table with room and a full one. -/
theorem test_witness_entries :
    busyBook.entry 0 = some ⟨7, 2, ⟨8, 8⟩, 5, .held⟩ ∧ book21.entry 4 = some ⟨21, 1, ⟨20, 8⟩, 20, .claiming⟩ ∧
      (busyBook.add ⟨9, 0, ⟨0, 64⟩, 1, .held⟩).isSome = true ∧ fullBook.add ⟨9, 0, ⟨0, 64⟩, 1, .held⟩ = none := by
  decide +kernel

/-- FromWalkTriesEveryStartOnce: both branches of the walk at their ends. -/
theorem test_witness_walks :
    fromStarts 63 1 = 63 :: List.range 63 ∧ fromStarts 0 64 = [0] ∧ (station21.chan 4).mode = .fromMode := by
  decide +kernel

/-- ArbiterGrantsInOrder, JobsRunFromGrantToEnd: each kind wanted with the unit free, and its grant. -/
theorem test_witness_grants :
    let hears : State := { running .joined with rxQueue := [⟨false, 3, .shed⟩] }
    let sweeps : State := { running .joined with timer := ⟨true, 10, 40, false, 1⟩ }
    let asks := after (.readMap 0 64) (atPort (running .joined))
    let places := (running .joined).setChan 7 placing40
    hears.unit.job = none ∧ (after (.evaluate .grant) hears).unit.job = some (.evaluate ⟨false, 3, .shed⟩) ∧
      (after (.sweep .grant) sweeps).unit.job = some (.sweep false) ∧
      asks.host.waitingCommand = some ⟨.readMap 0 64, false⟩ ∧
      (after (.hostJob .grant) asks).unit.job = some (.host ⟨.readMap 0 64, false⟩) ∧
      places.host.waitingCommand = none ∧ (after (.placement .grant) places).unit.job = some (.placement 7) := by
  decide +kernel

/-- RequestJobByItsChecks: a HOST job of each result. -/
theorem test_witness_request_jobs :
    let s := hostJob (.request 7 1 63 64) (running .joined)
    let disabled : State := { s with settings := { settings7 with weight := Vector.replicate 8 0 } }
    Runs s (.host ⟨.request 7 1 63 64, false⟩) ∧ s.host.held = none ∧ s.settings.weight.get 7 ≠ 0 ∧
      (s.chan 7).state = .idle ∧ ((s.setChan 7 placing40).chan 7).state ≠ .idle ∧ disabled.settings.weight.get 7 = 0 ∧
      (hostJob (.request 7 1 63 64) (running .leaving)).station.online = false :=
  ⟨⟨rfl, rfl, rfl, rfl⟩, by decide +kernel⟩

/-- ReleaseJobByTheChannelState: a HOST job of each channel state, its CLAIM waiting and in flight. -/
theorem test_witness_release_jobs :
    let s := hostJob (.release 2) busy
    let waits := (hostJob (.release 2) { running .joined with
      txQueue := [⟨.claim 2 ⟨8, 8⟩ 5, 0, false⟩] }).setChan 2 claiming8
    let flies := (hostJob (.release 2) { running .joined with
      txQueue := [⟨.claim 2 ⟨8, 8⟩ 5, 0, true⟩] }).setChan 2 claiming8
    Runs s (.host ⟨.release 2, false⟩) ∧ OutputsSafe s ∧ (s.chan 2).state = .held ∧ (waits.chan 2).state = .claiming ∧
      (∃ i ∈ waits.txQueue, i.body.isClaimOf 2 = true ∧ i.inAttempt = false) ∧
      (∀ i ∈ flies.txQueue, i.body.isClaimOf 2 = true → i.inAttempt = true) ∧
      ((s.setChan 2 placing40).chan 2).state = .placing := by
  refine ⟨⟨rfl, rfl, rfl, rfl⟩, ?_, by decide +kernel⟩
  unfold OutputsSafe MayDrive PlacementServes
  decide +kernel

/-- TableReadJobsReportASnapshot: the last position, record and slice. -/
theorem test_witness_table_reads :
    Runs (hostJob (.readEntry 95) busy) (.host ⟨.readEntry 95, false⟩) ∧
      Runs (hostJob (.readPeer 30) busy) (.host ⟨.readPeer 30, false⟩) ∧
      Runs (hostJob (.readMap 63 1) busy) (.host ⟨.readMap 63 1, false⟩) ∧
      (after (.hostJob .finish) (hostJob (.readMap 63 1) busy)).host.response = some ⟨.plain, [0, 0, 0, 0], .ok⟩ :=
  ⟨⟨rfl, rfl, rfl, rfl⟩, ⟨rfl, rfl, rfl, rfl⟩, ⟨rfl, rfl, rfl, rfl⟩, by decide +kernel⟩

/-- EvaluationSettlesTheSenderFirst: a notice of a known and of an unknown sender, and an own one. -/
theorem test_witness_evaluations :
    Runs (evaluating false (.sync 41) busy) (.evaluate ⟨false, 3, .sync 41⟩) ∧
      Runs (evaluating true (.summary 64 []) busy) (.evaluate ⟨true, 7, .summary 64 []⟩) ∧
      NoReturn (evaluating false .shed { busy with station := .desync, peers := [peer 3 true] }) ∧
      findPeer 3 busy.peers ≠ none ∧ findPeer 4 busy.peers = none :=
  ⟨⟨rfl, rfl, rfl, rfl⟩, ⟨rfl, rfl, rfl, rfl⟩, fun _ => ⟨peer 3 true, by simp [evaluating, inJob], rfl⟩,
    by decide +kernel⟩

/-- HeardClaimIsTestedAndAdded: void by one, fitting exactly, and fitting with no position free. -/
theorem test_witness_heard_claims :
    let s : State := { busy with settings := { settings7 with budget := 11 } }
    NoReturn s ∧ (s.book.dropKey 3 1).fits false s.settings.budget 7 ⟨15, 2⟩ = false ∧
      (s.book.dropKey 3 1).fits false s.settings.budget 6 ⟨15, 2⟩ = true ∧
      fullBook.fits false s.settings.budget 6 ⟨15, 2⟩ = true ∧
      fullBook.dropKey 3 1 = fullBook ∧ fullBook.add ⟨3, 1, ⟨15, 2⟩, 6, .held⟩ = none :=
  ⟨(fun h => by cases h), by decide +kernel⟩

/-- OwnClaimGrantsOrVoids: a CLAIMING channel, with and without a release pending, at its third and its last placement. -/
theorem test_witness_own_claims :
    let s := evaluating true (.claim 2 ⟨8, 8⟩ 5) ((running .joined).setChan 2 { claiming8 with attempts := 3 })
    let last := s.setChan 2 { claiming8 with attempts := 4, releasePending := true }
    Runs s (.evaluate ⟨true, 7, .claim 2 ⟨8, 8⟩ 5⟩) ∧ NoReturn s ∧ (s.chan 2).state = .claiming ∧
      (s.chan 2).attempts < 4 ∧ 4 ≤ (last.chan 2).attempts ∧ (last.chan 2).releasePending = true ∧
      s.book.fits false s.settings.budget 64 ⟨8, 8⟩ = true ∧ s.book.fits false s.settings.budget 65 ⟨8, 8⟩ = false :=
  ⟨⟨rfl, rfl, rfl, rfl⟩, (fun h => by cases h), by decide +kernel⟩

/-- ReleasesGiveTheWindowBack, LeavesRemoveTheStation: a RELEASING channel, and the leaves. -/
theorem test_witness_releases_and_leaves :
    let s := evaluating true (.release 2) ((running .joined).setChan 2 { held8 with state := .releasing })
    let last := evaluating false .leave { busy with station := .desync, peers := [peer 3 true] }
    let own := evaluating true .leave (running .leaving)
    Runs s (.evaluate ⟨true, 7, .release 2⟩) ∧ NoReturn s ∧ (s.chan 2).state = .releasing ∧
      Runs last (.evaluate ⟨false, 3, .leave⟩) ∧ findPeer 3 last.peers ≠ none ∧
      (∀ p ∈ last.peers, p.number ≠ 3 → p.awaiting = false) ∧ own.unit.job = some (.evaluate ⟨true, 7, .leave⟩) ∧
      own.host.waitingCommand = none := by
  refine ⟨⟨rfl, rfl, rfl, rfl⟩, (fun h => by cases h), by decide +kernel, ⟨rfl, rfl, rfl, rfl⟩, by decide +kernel⟩

/-- JobsRunFromGrantToEnd: a CLAIM heard with no position free, a withdrawal waiting: the job's own changes, then the
withdrawal, then the refill. -/
theorem test_witness_waiting_work :
    let s := evaluating false (.claim 1 ⟨15, 2⟩ 6) ({ running .joined with
      book := fullBook, peers := [peer 3 false] }.setChan 2 claiming8)
    let s := withWork [2] false false s
    let j := Job.evaluate ⟨false, 3, .claim 1 ⟨15, 2⟩ 6⟩
    let t := (runRows (waitingRows (changed j s)) (changed j s)).getD s
    s.unit.job = some j ∧ (changed j s).unit.withdrawals = [2] ∧ (changed j s).unit.refillWaiting = true ∧
      (runRows (waitingRows (changed j s)) (changed j s)).isSome = true ∧ t.station = .desync ∧
      (t.chan 2).outcome = .withdrawn ∧ t.peers = [{ peer 3 true with silence := 0 }] ∧ t.unit.withdrawals = [] := by
  decide +kernel

/-- SummariesReplaceTheSendersEntries: a summary that finds room, and one that does not. -/
theorem test_witness_summaries :
    let ls : List Listed := [⟨1, ⟨20, 4⟩, 59⟩]
    let s := evaluating false (.summary 64 ls) busy
    Runs s (.evaluate ⟨false, 3, .summary 64 ls⟩) ∧ findPeer 3 s.peers ≠ none ∧
      (addListed 3 ls (s.book.dropOwned 3)).complete = true ∧
      (∀ i : Fin 64, ((addListed 3 ls (s.book.dropOwned 3)).book.map.get i).committed ≤ s.settings.budget) ∧
      (addListed 3 ls fullBook).complete = false :=
  ⟨⟨rfl, rfl, rfl, rfl⟩, by decide +kernel⟩

/-- OvercommitMakesTheNewestGrantYield: one over the budget in slice 8, where the own grant of channel 2 is the newest. -/
theorem test_witness_overcommit :
    let ls : List Listed := [⟨1, ⟨8, 1⟩, 60⟩]
    let s := evaluating false (.summary 64 ls) busy
    let a := addListed 3 ls (s.book.dropOwned 3)
    Runs s (.evaluate ⟨false, 3, .summary 64 ls⟩) ∧ OutputsSafe s ∧ a.complete = true ∧
      s.settings.budget < (a.book.map.get 8).committed ∧ s.grants = [2] ∧ (s.chan 2).state = .held ∧
      weightOver (fun e => e.owner == s.settings.stationNumber && e.state == .releasing) a.book 8 = 0 := by
  refine ⟨⟨rfl, rfl, rfl, rfl⟩, ?_, by decide +kernel⟩
  unfold OutputsSafe MayDrive PlacementServes
  decide +kernel

/-- OvercommitMakesTheNewestGrantYield: the added entry covers slice 8, which is over the budget. -/
theorem test_witness_over_budget :
    let a := addListed 3 [⟨1, ⟨8, 1⟩, 60⟩] (busy.book.dropOwned 3)
    OverBudget busy.settings.budget a 8 := by
  unfold OverBudget
  decide +kernel

/-- SweepsLoseSilentPeers: the sweep that loses the last awaited peer returns the station to JOINED (R128, R130). -/
theorem test_sweep_returns_to_joined :
    let t := after (.sweep .finish) (inJob (.sweep false) { running .desync with
      peers := [⟨3, 0, none, false, false⟩, ⟨9, 24, none, false, true⟩] })
    t.station = .joined ∧ t.peers = [⟨3, 0, none, false, false⟩] ∧ t.events.isSet .resyncDone = true := by
  decide +kernel

/-- SweepsLoseSilentPeers: a sweep with two peers at the limit and one short of it, the lower-numbered of the two in
its turn. -/
theorem test_witness_sweeps :
    let s := inJob (.sweep false) { running .joined with
      peers := [⟨3, 23, none, false, false⟩, ⟨9, 24, none, false, false⟩, ⟨12, 24, none, false, false⟩] }
    PeersLegal s ∧ Runs s (.sweep false) ∧ findPeer 9 s.peers = some ⟨9, 24, none, false, false⟩ ∧
      s.settings.silenceLimit = 24 ∧ (∀ q ∈ s.peers, 24 ≤ q.silence → 9 ≤ q.number) ∧ s.station ≠ .desync := by
  refine ⟨?_, ⟨rfl, rfl, rfl, rfl⟩, by decide +kernel⟩
  unfold PeersLegal
  decide +kernel

/-- PlacementTakesTheFirstFit: the example of section 2.7, with 37 candidates tried. -/
theorem test_witness_placements :
    let s := inJob (.placement 4) station21
    let all := (fromStarts 40 16).map fun k => (⟨k, 16⟩ : Window)
    Runs s (.placement 4) ∧ (∀ w ∈ all.take 37, s.book.fits true s.settings.budget 12 w = false) ∧
      all[37]? = some ⟨28, 16⟩ ∧ s.book.fits true s.settings.budget 12 ⟨28, 16⟩ = true ∧
      (s.book.add ⟨21, 4, ⟨28, 16⟩, 12, .claiming⟩).isSome = true :=
  ⟨⟨rfl, rfl, rfl, rfl⟩, by decide +kernel⟩

/-- WaitingWorkRunsWhenTheUnitIsFree: all three wait, the unit free. -/
theorem test_witness_waiting :
    let s : State := { (running .desync).setChan 7 claiming8 with unit := ⟨none, [7], true, true, ⟨0, 0, 0⟩⟩ }
    s.unit.job = none ∧ 7 ∈ s.unit.withdrawals ∧ (s.chan 7).state = .claiming ∧ s.unit.leaveWaiting = true ∧
      s.unit.refillWaiting = true ∧ s.peers = [] := by decide +kernel

/-- SamplesMoveTheSupplyState: the levels at their boundaries. -/
theorem test_witness_samples :
    let s : State := { running .joined with supply := ⟨.normal, 1, false, 200⟩ }
    let low : State := { running .joined with supply := ⟨.low, 1, false, 200⟩ }
    (after (.sliceBoundary 1099) s).supply.state = .low ∧ (after (.sliceBoundary 1100) s).supply.history = 0 ∧
      (after (.sliceBoundary 1124) low).supply.history = 0 ∧
      (after (.sliceBoundary 1125) low).supply.state = .normal := by decide +kernel

/-- FrameTimerEventsAndTheirSamples, FrameStartsAndRealignment: slices 62 and 63, with the hold and without. -/
theorem test_witness_timer :
    let s (slice : Nat) (hold : Bool) : State := { running .joined with timer := ⟨true, slice, 40, hold, 0⟩ }
    (after (.sliceBoundary 2000) (s 62 false)).timer.slice = 63 ∧
      (after (.frameExpiry 2000) (s 63 false)).timer.hold = true ∧
      (after (.holdTick 2000) (s 63 true)).txQueue ≠ [] ∧ State.reset.supply.samplerRunning = true := by
  decide +kernel

/-- FrameStartsAndRealignment, CountsThatRunOut: counts at their ends. -/
theorem test_witness_counts :
    let due : State := { running .joined with summaryTimer := 8 }
    let shedding : State := { running .joined with shed := ⟨.shedding, 0, 0⟩, supply := ⟨.low, 0, false, 200⟩ }
    due.settings.summaryInterval ≤ due.summaryTimer ∧ (running .listening).listenCount = 0 ∧
      shedding.shed.hold = 0 ∧ shedding.shed.resend = 0 ∧ shedding.supply.state = .low ∧
      (after .shedResend shedding).shed.resend = 8 := by decide +kernel

/-- FrameStartsAndRealignment: slices 55 and 56, the frame after 255. -/
theorem test_witness_realignment :
    let s (slice : Nat) : State := { running .joined with timer := ⟨true, slice, 255, false, 0⟩ }
    ((s 56).realign 0).events.isSet .syncSlip = false ∧ ((s 55).realign 0).events.isSet .syncSlip = true ∧
      ((s 56).realign 1).events.isSet .syncSlip = true := by decide +kernel

/-- StartEdgesBeginNotices: gaps at 9 T and 10 T with a notice on offer, in each phase of an idle line. -/
theorem test_witness_starts :
    let s : State := { running .joined with txQueue := [⟨.release 1, 0, false⟩], line := ⟨.idle, 4, 0⟩ }
    s.station.sends = true ∧ (after (.attemptStart .own 36) s).line.phase = .sending (.release 1) ∧
      (after (.attemptStart .own 35) s).line.phase = .idle ∧
      (after (.attemptStart .joining 32) s).line.phase = .sending (.release 1) ∧
      (after (.startEdge 31) s).line.phase = .idle := by decide +kernel

/-- AttemptsAreSettledByTheTable: a third and a fourth broken attempt of a CLAIM, and a CLAIM with a release pending. -/
theorem test_witness_settlements :
    let item (k : Nat) : TxItem := ⟨.claim 2 ⟨8, 8⟩ 5, k, true⟩
    let s (k : Nat) := { running .joined with txQueue := [⟨.sync 41, 0, false⟩, item k] }.setChan 2 claiming8
    let pending := (s 3).setChan 2 { claiming8 with releasePending := true }
    (item 2).inAttempt = true ∧ (s 2).settleBroken.txQueue = [⟨.sync 41, 0, false⟩, ⟨.claim 2 ⟨8, 8⟩ 5, 3, false⟩] ∧
      (s 3).settleBroken.txQueue = [⟨.sync 41, 0, false⟩, ⟨.claim 2 ⟨8, 8⟩ 5, 0, false⟩] ∧
      (pending.chan 2).releasePending = true ∧ pending.settleBroken.txQueue = [⟨.sync 41, 0, false⟩] := by
  decide +kernel

/-- MonitorAndBreaksEndAttempts: a 1 in the first and the last monitored header cell of station 32's LEAVE, a 0 between
them, and each phase a break can end. -/
theorem test_witness_monitor :
    let n := Notice.leave
    (n.cells 32)[2 - 2]? = some true ∧ (n.cells 32)[9 - 2]? = some true ∧ (n.cells 32)[3 - 2]? = some false ∧
      LinePhase.breaks .dominant (.ownEcho n true) = true ∧ LinePhase.breaks .recessive (.ownEcho n true) = false ∧
      LinePhase.breaks .dominant (.judged .malformed) = true ∧ LinePhase.breaks .recessive .decoding = true := by
  decide +kernel

/-- OwnNoticesCompleteByTheTable: an own attempt at its echo cell, third and fourth unechoed, with a peer known. -/
theorem test_witness_own_completions :
    let s (k : Nat) (r : Bool) : State := { busy with
      txQueue := [⟨.release 1, k, true⟩], line := ⟨.ownEcho (.release 1) r, 0, 0⟩ }
    (s 2 true).txQueue.find? (fun j => j.inAttempt) = some ⟨.release 1, 2, true⟩ ∧ (s 2 true).peers ≠ [] ∧
      (after (.noticeComplete 1 .cause) (s 2 true)).txQueue = [⟨.release 1, 3, false⟩] ∧
      (after (.noticeComplete 1 .cause) (s 3 true)).rxQueue = [⟨true, 7, .release 1⟩] ∧
      (after (.noticeComplete 3 .cause) (s 0 false)).station = .desync := by decide +kernel

/-- HeardNoticesCompleteByTheirJudgment: each judgment, in each kind of station state. -/
theorem test_witness_heard_completions :
    let s (st : StationState) (v : Verdict) : State := { running st with line := ⟨.judged v, 0, 0⟩ }
    (after (.noticeComplete 3 .cause) (s .joined (.accepted ⟨false, 3, .leave⟩))).rxQueue = [⟨false, 3, .leave⟩] ∧
      (after (.noticeComplete 1 .cause) (s .listening (.overrun ⟨false, 3, .shed⟩))).listenCount = 24 ∧
      (after (.noticeComplete 1 .cause) (s .desync .crcFailure)).station = .joined ∧
      (after (.noticeComplete 1 .cause) (s .leaving .crcFailure)).station = .leaving ∧
      (after (.noticeComplete 1 .cause) (inJob (.sweep false) (s .joined .crcFailure))).unit.refillWaiting = true := by
  decide +kernel

/-- StepsThatCannotOccurChangeNothing: the state after reset, and one with a job and a hold. -/
theorem test_witness_idle :
    State.reset.timer.running = false ∧ State.reset.line.phase = .idle ∧ State.reset.unit.job = none ∧
      State.reset.host.response = none ∧ State.reset.host.csLow = false ∧ (atPort State.reset).host.csLow = true ∧
      (inJob (.sweep false) State.reset).unit.job ≠ none ∧ (running .joined).supply.samplerRunning = false := by
  decide +kernel

end Sys2Proof.Tests
end

section
/-! PROOFS. The reservation table and its map: what each entry change does to the sums of one slice (R6). -/

namespace Sys2Proof.Machine

/-! ### The sums of one slice -/

/-- Only a CLAIMING entry counts in the tentative sums (R5). -/
theorem EntryState.tentative_iff (st : EntryState) : st.tentative = true ↔ st = .claiming := by
  cases st <;> decide

/-- A weight is added on the tentative side for a CLAIMING entry and on the committed side for any other (R6). -/
theorem Sums.add_eq (e : Entry) (m : Sums) :
    m.add e = if e.state = .claiming then ⟨m.committed, m.tentative + e.weight⟩
      else ⟨m.committed + e.weight, m.tentative⟩ := by
  simp only [Sums.add, EntryState.tentative_iff]

/-- A weight comes off the side it was added on (R6). -/
theorem Sums.sub_eq (e : Entry) (m : Sums) :
    m.sub e = if e.state = .claiming then ⟨m.committed, m.tentative - e.weight⟩
      else ⟨m.committed - e.weight, m.tentative⟩ := by
  simp only [Sums.sub, EntryState.tentative_iff]

/-- The weight of an entry that leaves CLAIMING goes over from the tentative to the committed side (R6). -/
theorem Sums.add_sub_of_claiming (e : Entry) (m : Sums) (st : EntryState) (h : e.state = .claiming)
    (hst : st ≠ .claiming) :
    (m.sub e).add { e with state := st } = ⟨m.committed + e.weight, m.tentative - e.weight⟩ := by
  rw [Sums.add_eq, Sums.sub_eq, if_neg hst, if_pos h]

/-! ### The map after an entry change -/

section MapAfterChange

variable (b : Book) (p : Fin 96) (i : Fin 64)

theorem Book.put_map_get (e : Entry) :
    (b.put p e).map.get i = if e.win.covers i.val then (b.map.get i).add e else b.map.get i :=
  mapOver_get e.win (Sums.add e) b.map i

theorem Book.drop_map_get (e : Entry) (h : b.entry p = some e) :
    (b.drop p).map.get i = if e.win.covers i.val then (b.map.get i).sub e else b.map.get i := by
  simp only [Book.drop, h, mapOver_get]

/-- A change of state that leaves the weight on its side leaves the map as it was (R6). -/
theorem Book.restate_map_of_same_side (e : Entry) (st : EntryState) (h : b.entry p = some e)
    (hside : e.state.tentative = st.tentative) : (b.restate p st).map = b.map := by
  simp only [Book.restate, h, if_pos hside]

/-- A change of state across the sides takes the weight off and adds it again in every covered slice (R6). -/
theorem Book.restate_map_get_of_new_side (e : Entry) (st : EntryState) (h : b.entry p = some e)
    (hside : e.state.tentative ≠ st.tentative) :
    (b.restate p st).map.get i =
      if e.win.covers i.val then ((b.map.get i).sub e).add { e with state := st } else b.map.get i := by
  simp only [Book.restate, h, if_neg hside, mapOver_get]

theorem Book.restate_entry_self (e : Entry) (st : EntryState) (h : b.entry p = some e) :
    (b.restate p st).entry p = some { e with state := st } := by
  rw [Book.restate_entry, if_pos rfl, h, Option.map_some]

end MapAfterChange

/-- Settles O30: the entry and the covered slices of each change, a change of state by the sides it goes between. -/
theorem mapMovesWithItsEntries : Obligations.MapMovesWithItsEntries := by
  intro b p e i
  simp only [← Window.covers_iff, ← Sums.add_eq, ← Sums.sub_eq]
  refine ⟨⟨?_, b.put_map_get p i e⟩, fun h => ⟨⟨?_, b.drop_map_get p i e h⟩, fun hc => ?held, fun hh => ?releasing⟩⟩
  · rw [Book.put_entry, if_pos rfl]
  · rw [Book.drop_entry, if_pos rfl]
  case held =>
    have hside : e.state.tentative ≠ EntryState.held.tentative := by rw [hc]; decide
    refine ⟨b.restate_entry_self p e .held h, ?_⟩
    rw [b.restate_map_get_of_new_side p i e .held h hside, Sums.add_sub_of_claiming e _ .held hc (by decide)]
  case releasing =>
    have hside : e.state.tentative = EntryState.releasing.tentative := by rw [hh]; rfl
    exact ⟨b.restate_entry_self p e .releasing h, by rw [b.restate_map_of_same_side p e .releasing h hside]⟩

end Sys2Proof.Machine
end

section
/-! PROOFS. Placement: the order of the candidate starts of a FROM request and the first of them that fits (R27, R28). -/

namespace Sys2Proof.Machine

/-! ### The walk of a FROM request -/

/-- The starts of a run that leave room for the length before the end of the frame are its part below 65 − length. -/
theorem filter_range'_of_room (a n len : Nat) :
    (List.range' a (n - a)).filter (fun k => decide (k + len ≤ 64)) = List.range' a (min n (65 - len) - a) := by
  have room : ∀ k, k + len ≤ 64 ↔ k < 65 - len := by omega
  simp only [room]
  exact List.Ico.filter_lt a n (65 - len)

/-- The walk is two runs, upwards from the request's start and then from slice 0 (R27). -/
theorem fromStarts_eq_append (start len : Nat) (hlen : 1 ≤ len) :
    fromStarts start len = List.range' start (65 - len - start) ++ List.range (min start (65 - len)) := by
  have onward : (List.range 64).drop start = List.range' start (64 - start) := by
    rw [List.range_eq_range', List.drop_range', Nat.mul_one, Nat.zero_add]
  have around : (List.range 64).take start = List.range' 0 (min start 64 - 0) := by
    rw [List.take_range, List.range_eq_range', Nat.sub_zero]
  have onwardEnd : min 64 (65 - len) = 65 - len := by omega
  have aroundEnd : min (min start 64) (65 - len) = min start (65 - len) := by omega
  rw [fromStarts, List.filter_append, onward, around, filter_range'_of_room, filter_range'_of_room, onwardEnd, aroundEnd,
    Nat.sub_zero, List.range_eq_range']

theorem length_fromStarts (start len : Nat) (hlen : 1 ≤ len) : (fromStarts start len).length = 65 - len := by
  rw [fromStarts_eq_append start len hlen, List.length_append, List.length_range', List.length_range]
  omega

/-- No start is tried twice: the second run ends below the request's start, where the first begins (R27). -/
theorem nodup_fromStarts (start len : Nat) (hlen : 1 ≤ len) : (fromStarts start len).Nodup := by
  rw [fromStarts_eq_append start len hlen]
  refine List.nodup_append.2 ⟨List.nodup_range', List.nodup_range, fun i hi j hj => ?_⟩
  rw [List.mem_range'_1] at hi
  rw [List.mem_range] at hj
  omega

/-- The starts tried are those whose window ends within the frame (R27). -/
theorem mem_fromStarts (start len k : Nat) (hlen : 1 ≤ len) : k ∈ fromStarts start len ↔ k + len ≤ 64 := by
  rw [fromStarts_eq_append start len hlen, List.mem_append, List.mem_range'_1, List.mem_range]
  omega

/-! ### The first fit -/

/-- In FROM mode the window placed has the requested length and the first start of the walk that fits (R27, R28). -/
theorem State.placementWindow_eq_some_iff_of_fromMode (s : State) (c : Chan) (w : Window)
    (hmode : (s.chan c).mode = .fromMode) :
    s.placementWindow c = some w ↔
      (fromStarts (s.chan c).reqStart (s.chan c).reqLen).find? (fun k =>
          s.book.fits true s.settings.budget (s.settings.weight.get c) ⟨k, (s.chan c).reqLen⟩) = some w.start ∧
        w.len = (s.chan c).reqLen := by
  rw [State.placementWindow, Channel.candidates, hmode]
  simp only [List.find?_map, Option.map_eq_some_iff]
  constructor
  · rintro ⟨k, hfirst, rfl⟩
    exact ⟨hfirst, rfl⟩
  · rintro ⟨hfirst, hlen⟩
    exact ⟨w.start, hfirst, by rw [← hlen]⟩

/-- Settles O32: the walk by its two runs, and its first fit by the starts tried before it. -/
theorem fromWalkTriesEveryStartOnce : Obligations.FromWalkTriesEveryStartOnce := by
  refine ⟨fun start len _ hlen hmax => ⟨fromStarts_eq_append start len hlen, length_fromStarts start len hlen,
    nodup_fromStarts start len hlen, fun k => ?_⟩, fun s c w hmode => ?_⟩
  · rw [mem_fromStarts start len k hlen]
    omega
  · rw [s.placementWindow_eq_some_iff_of_fromMode c w hmode, List.find?_eq_some_iff_append, and_comm]
    refine and_congr_right fun hlen => ?_
    simp only [← hlen, Bool.not_eq_true']
    constructor
    · rintro ⟨hfits, before, after, hwalk, hbefore⟩
      exact ⟨before, after, hwalk, hfits, hbefore⟩
    · rintro ⟨before, after, hwalk, hfits, hbefore⟩
      exact ⟨hfits, before, after, hwalk, hbefore⟩

end Sys2Proof.Machine
end

section
/-! PROOFS. The cells of a notice: bit fields and where they lie, the CRC register, and the decoding of covered cells
followed by sixteen more (R98, R106, R182). -/

namespace Sys2Proof.Machine

open Sys2Proof.Safety

/-! ### Bit fields -/

@[simp] theorem length_natBits (w n : Nat) : (natBits w n).length = w := by
  induction w with
  | zero => rfl
  | succ w ih => rw [natBits, List.length_cons, ih]

/-- Cell `k` of a field holds the bit `k` places below its top one (R182). -/
theorem getElem?_natBits (w n k : Nat) (hk : k < w) : (natBits w n)[k]? = some (n.testBit (w - 1 - k)) := by
  induction w generalizing k with
  | zero => exact absurd hk (Nat.not_lt_zero k)
  | succ w ih =>
    cases k with
    | zero => rfl
    | succ k =>
      rw [natBits, List.getElem?_cons_succ, ih k (Nat.lt_of_succ_lt_succ hk)]
      congr 2
      omega

/-- The cells of a field shift into a value from its low end. -/
theorem foldl_natBits (w n acc : Nat) :
    (natBits w n).foldl (fun m b => 2 * m + b.toNat) acc = acc * 2 ^ w + n % 2 ^ w := by
  induction w generalizing acc with
  | zero => simp [natBits, Nat.mod_one]
  | succ w ih => rw [natBits, List.foldl_cons, ih, Nat.toNat_testBit, Nat.mod_pow_succ]; ring

/-- A value that fits its field is read back from the field's cells (R182). -/
theorem bitsNat_natBits (w n : Nat) (hn : n < 2 ^ w) : bitsNat (natBits w n) = n := by
  rw [bitsNat, foldl_natBits, Nat.zero_mul, Nat.zero_add, Nat.mod_eq_of_lt hn]

/-- A field is read back from where it lies among other cells (R182). -/
theorem field_append_natBits (before after : List Bool) (w n : Nat) (hn : n < 2 ^ w) :
    field before.length w (before ++ (natBits w n ++ after)) = n := by
  rw [field, List.drop_left, List.take_left' (length_natBits w n), bitsNat_natBits w n hn]

/-! ### The CRC register -/

theorem crcOf_concat (cells : List Bool) (cell : Bool) : crcOf (cells ++ [cell]) = crcStep (crcOf cells) cell := by
  rw [crcOf, List.foldl_concat, ← crcOf]

/-- The bits that a differing cell inverts are 12, 5 and 0 (R106). -/
theorem getLsbD_crcPolynomial : ∀ k < 16, (0x1021#16).getLsbD k = (k == 12 || k == 5 || k == 0) := by decide

/-- One place up, with 0 coming in at the low end. -/
theorem getLsbD_shiftLeft_one (reg : BitVec 16) (k : Nat) (hk : k < 16) :
    (reg <<< 1).getLsbD k = (k != 0 && reg.getLsbD (k - 1)) := by
  cases k with
  | zero => simp
  | succ k =>
    rw [BitVec.getLsbD_shiftLeft, decide_eq_true hk]
    simp

theorem getLsbD_crcStep (reg : BitVec 16) (cell : Bool) (k : Nat) (hk : k < 16) :
    (crcStep reg cell).getLsbD k =
      xor (k != 0 && reg.getLsbD (k - 1)) ((k == 12 || k == 5 || k == 0) && xor (reg.getLsbD 15) cell) := by
  have top : reg.msb = reg.getLsbD 15 := BitVec.msb_eq_getLsbD_last reg
  rw [crcStep, top]
  split
  case isTrue same => rw [getLsbD_shiftLeft_one reg k hk, same, Bool.xor_self, Bool.and_false, Bool.xor_false]
  case isFalse differs =>
    have inverts : xor (reg.getLsbD 15) cell = true := by simpa using differs
    rw [BitVec.getLsbD_xor, getLsbD_shiftLeft_one reg k hk, getLsbD_crcPolynomial k hk, inverts, Bool.and_true]

@[simp] theorem length_crcCells (cells : List Bool) : (crcCells cells).length = 16 := length_natBits 16 _

theorem getElem?_crcCells (cells : List Bool) (k : Nat) (hk : k < 16) :
    (crcCells cells)[k]? = some ((crcOf cells).getLsbD (15 - k)) := by
  rw [crcCells, getElem?_natBits 16 _ k hk, BitVec.testBit_toNat]

/-! ### Where the fields of a notice lie -/

theorem Notice.kind_lt (n : Notice) : n.kind < 6 := by
  cases n <;> simp [Notice.kind]

theorem length_listedCells (l : Listed) : l.cells.length = 21 := by
  simp [Listed.cells]

/-- The payload has the length of its kind, a SUMMARY's with 21 cells for each listed entry (R98, R182). -/
theorem length_payloadCells (n : Notice) (count : Nat) (hcount : ∀ b ls, n = .summary b ls → count = ls.length) :
    n.payloadCells.length = payloadLength n.kind count := by
  cases n with
  | sync f => exact length_natBits 8 f
  | shed => rfl
  | release c => exact length_natBits 3 c.val
  | claim c w wt => exact length_listedCells _
  | leave => rfl
  | summary b ls =>
    have entries : (ls.flatMap Listed.cells).length = 21 * ls.length := by
      simp [List.length_flatMap, length_listedCells, Nat.mul_comm]
    simp only [Notice.payloadCells, Notice.kind, payloadLength, List.length_append, length_natBits, entries,
      hcount b ls rfl, Nat.reduceAdd]

section CoveredCells

variable (n : Notice) (sender : Nat) (after : List Bool)

theorem length_coveredCells : (n.coveredCells sender).length = 8 + n.payloadCells.length := by
  simp only [Notice.coveredCells, List.length_append, length_natBits]

theorem field_kind_coveredCells : field 0 3 (n.coveredCells sender ++ after) = n.kind := by
  rw [Notice.coveredCells, List.append_assoc, List.append_assoc]
  exact field_append_natBits [] _ 3 n.kind (Nat.lt_trans n.kind_lt (by decide))

theorem field_count_coveredCells (b : Nat) (ls : List Listed) (hls : ls.length ≤ 8) :
    field 20 4 ((Notice.summary b ls).coveredCells sender ++ after) = ls.length := by
  have header : (natBits 3 5 ++ natBits 5 (sender - 1) ++ natBits 12 b).length = 20 := by simp
  have count := field_append_natBits (natBits 3 5 ++ natBits 5 (sender - 1) ++ natBits 12 b)
    (ls.flatMap Listed.cells ++ after) 4 ls.length (by omega)
  rw [header] at count
  simpa only [Notice.coveredCells, Notice.kind, Notice.payloadCells, List.append_assoc] using count

/-- The covered cells are as many as a receiver finds from the kind and the count it reads (R98, R182). -/
theorem length_coveredCells_eq_of_fields (hn : HasCells n) :
    (n.coveredCells sender).length =
      8 + payloadLength n.kind (field 20 4 (n.coveredCells sender ++ after)) := by
  rw [length_coveredCells, length_payloadCells n]
  rintro b ls rfl
  obtain ⟨_, hls, _⟩ := hn
  exact field_count_coveredCells sender after b ls hls

/-- The count that a receiver reads in a SUMMARY is at most 8 (R79). -/
theorem field_count_le_of_kind_eq_five (hn : HasCells n) (hkind : n.kind = 5) :
    field 20 4 (n.coveredCells sender ++ after) ≤ 8 := by
  cases n with
  | summary b ls =>
    obtain ⟨_, hls, _⟩ := hn
    rw [field_count_coveredCells sender after b ls hls]
    exact hls
  | _ => simp [Notice.kind] at hkind

end CoveredCells

/-! ### Decoding -/

/-- Once all cells of a notice with a good header are there, the CRC is compared, then the fields are checked (R92). -/
theorem decodeNotice_of_complete (cells : List Bool) (hkind : field 0 3 cells < 6)
    (hcount : field 0 3 cells = 5 → field 20 4 cells ≤ 8) (covered : Nat)
    (hcovered : covered = 8 + payloadLength (field 0 3 cells) (field 20 4 cells))
    (hlen : covered + 16 ≤ cells.length) :
    decodeNotice cells =
      if crcCells (cells.take covered) ≠ (cells.drop covered).take 16 then .crcFailure
      else if (readPayload (field 0 3 cells) ((cells.take covered).drop 8)).wellFormed then
        .good (field 3 5 cells + 1) (readPayload (field 0 3 cells) ((cells.take covered).drop 8))
      else .malformedFields := by
  subst hcovered
  have summaryHeader : ¬ (field 0 3 cells = 5 ∧ cells.length < 24) := by
    rintro ⟨hfive, hshort⟩
    rw [hfive, payloadLength] at hlen
    omega
  have countFits : ¬ (field 0 3 cells = 5 ∧ 8 < field 20 4 cells) := fun ⟨hfive, hmany⟩ => by
    have := hcount hfive
    omega
  rw [decodeNotice, if_neg (by omega), if_neg (by omega), if_neg (by omega), if_neg summaryHeader, if_neg countFits]
  simp only [if_neg (Nat.not_lt.2 hlen)]

/-- A receiver that decoded other CRC cells than those of the covered ones finds a CRC failure (R106). -/
theorem decodeNotice_of_crc_ne (n : Notice) (sender : Nat) (crc rest : List Bool) (hn : HasCells n)
    (hlen : crc.length = 16) (hcrc : crc ≠ crcCells (n.coveredCells sender)) :
    decodeNotice (n.coveredCells sender ++ (crc ++ rest)) = .crcFailure := by
  have kindRead := field_kind_coveredCells n sender (crc ++ rest)
  have coveredRead := length_coveredCells_eq_of_fields n sender (crc ++ rest) hn
  rw [decodeNotice_of_complete _ (kindRead ▸ n.kind_lt)
      (fun hfive => field_count_le_of_kind_eq_five n sender _ hn (kindRead ▸ hfive)) _ (kindRead.symm ▸ coveredRead)
      (by simp [hlen]), List.take_left, List.drop_left, List.take_left' hlen, if_pos hcrc.symm]

/-- A CRC failure leaves the rest of the notice to be waited out, judged, and changes nothing else (R92). -/
theorem State.judgeHeard_of_crcFailure (s : State) (heard : Heard) (hrun : s.station.running = true)
    (hline : s.line.phase = .decoding) (hcells : decodeNotice heard.cells = .crcFailure) :
    s.judgeHeard heard = s.judge heard.run (.judged .crcFailure) := by
  rw [State.judgeHeard, if_pos ⟨hrun, hline⟩, hcells]

/-- Settles O15: the register by its bits after one more cell, the CRC cells by their places, and the receiver's
comparison by the covered length it reads from the notice itself. -/
theorem crcIsFormedCellByCell : Obligations.CrcIsFormedCellByCell := by
  refine ⟨rfl, fun cells cell k hk => ?register, fun cells => ⟨length_crcCells cells, getElem?_crcCells cells⟩,
    fun _ _ => rfl, fun n sender crc s hn _ _ hlen hcrc => ?receiver⟩
  case register => rw [crcOf_concat, getLsbD_crcStep _ cell k hk]
  case receiver =>
    have failure : decodeNotice (n.coveredCells sender ++ crc) = .crcFailure := by
      simpa only [List.append_nil] using decodeNotice_of_crc_ne n sender crc [] hn hlen hcrc
    refine ⟨failure, fun hrun hline q => ?_⟩
    exact congrArg Host.Outcome.next (s.judgeHeard_of_crcFailure ⟨_, .recessive q⟩ hrun hline failure)

end Sys2Proof.Machine
end

section
/-! PROOFS. The moves of the part. Every step is a run of the small changes listed here, each with the condition under
which the model makes it; an invariant is then kept by every step once it is kept by every move. -/

namespace Sys2Proof.Machine

open Sys2Proof.Safety

/-! ### States on the way through a step -/

/-- A LEAVE taken on the line, before its channel effects and the end of a hold (R73, R88, R142, R161). -/
def State.leaveStarted (s : State) : State :=
  let s := { s.cancelShed with
    station := .leaving
    txQueue := placeLeave (withdrawItems TxBody.endsAtLeave s.txQueue) }
  let s := (s.modChans fun _ ch => { ch with live := false }).dropDrive
  { s with unit := { s.unit with leaveWaiting := true, refillWaiting := false } }

/-- Slice 0 of a frame, with the sweep-pending count, the live marks and the outputs of its start (R48, R49, R65, R67). -/
def State.nextFrame (f : Nat) (s : State) : State :=
  State.frameChannels { s with
    timer := ⟨s.timer.running, 0, f, false, min Config.silenceCap (s.timer.sweepPending + 1)⟩ }

/-- The counts a frame start steps, behind its slice 0 (R48). -/
def State.frameCounts (s : State) : State :=
  if s.station.online then State.summaryDue { s.stepShed with summaryTimer := s.stepShed.summaryTimer + 1 }
  else if s.station = .listening then State.endListening { s with listenCount := s.listenCount - 1 }
  else s

/-- An entry to SHEDDING before its SHED and its event (R66, R154). -/
def State.shedStarted (s : State) : State :=
  (State.modChans (fun c ch => if s.settings.sheddable.get c then ch.suspend else ch) { s with shed :=
    ⟨.shedding, s.settings.shedHold,
      if s.supply.state = SupplyState.low then resendInterval s.settings.shedHold else 0⟩ }).trimDrive

/-- A HELD channel made RELEASING with its RELEASE queued (R60, R69). -/
def State.givenBack (c : Chan) (again : Bool) (s : State) : State :=
  State.sendRelease c
    (State.modChan c (fun ch => { ch with state := .releasing, live := false, reRequest := again })
      { s with book := s.book.restateKey s.settings.stationNumber c .releasing }).trimDrive

/-- The end of an own EVALUATE job that grants its channel (R9, R61, R64). -/
def State.ownGranted (c : Chan) (s : State) : State :=
  State.modChan c (fun ch => { ch with state := .held }) { s with
    unit := { s.unit with job := none }
    book := s.book.restateKey s.settings.stationNumber c .held
    grants := s.grants ++ [c] }

/-- The same with a release pending (R61). -/
def State.ownGrantedReleasing (c : Chan) (s : State) : State :=
  State.sendRelease c (State.modChan c (fun ch => { ch with state := .releasing, releasePending := false }) { s with
    unit := { s.unit with job := none }
    book := (s.book.restateKey s.settings.stationNumber c .held).restateKey s.settings.stationNumber c .releasing
    grants := s.grants ++ [c] })

/-- The end of an own EVALUATE job that takes its channel's entry away, the channel going on as given (R9, R10). -/
def State.ownFreed (c : Chan) (grants : List Chan) (f : Channel → Channel) (s : State) : State :=
  State.modChan c f { s with
    unit := { s.unit with job := none }
    book := s.book.dropKey s.settings.stationNumber c
    grants := grants }

/-- A channel placed again after a void claim (R32). -/
def Channel.placeAgain (ch : Channel) : Channel :=
  { ch with state := .placing, window := none, attempts := ch.attempts + 1 }

/-- A channel placed again after a yield (R62, R70). -/
def Channel.placeAnew (ch : Channel) : Channel := { ch.toIdle with state := .placing, attempts := 0 }

/-- The Line Interface in no own attempt and with no place reserved. -/
def LinePhase.resting (p : LinePhase) : Prop := p = .idle ∨ p = .skipping ∨ p = .decoding

/-! ### Where a withdrawal comes from -/

/-- A CLAIMING channel is withdrawn for one of these reasons, with the line, the transmit queue and the waiting
withdrawals as they are left: its withdrawal waited, a leave is carried out, its CLAIM waited in the queue, or its CLAIM's
attempt has ended (R17, R58, R59, R73, R85). -/
inductive WithdrawalOf (s : State) (c : Chan) : LineInterface → List TxItem → List Chan → Prop
  | asked (h : c ∈ s.unit.withdrawals) :
      WithdrawalOf s c s.line s.txQueue (s.unit.withdrawals.filter (· != c))
  | leaving (h : s.unit.leaveWaiting = true) : WithdrawalOf s c s.line s.txQueue s.unit.withdrawals
  | queued (h : claimWaits c s.txQueue = true) :
      WithdrawalOf s c s.line (withdrawItems (TxBody.isClaimOf c) s.txQueue) s.unit.withdrawals
  | settled {l : LineInterface} {i : TxItem} {w : Window} {wt : Nat} (hown : s.line.phase.isOwn = true)
      (hl : l.phase.resting) (hi : attemptItem s.txQueue = some i) (hb : i.body = .claim c w wt) :
      WithdrawalOf s c l (dropAttempt s.txQueue) s.unit.withdrawals

/-! ### The channels dropped at an entry to UNJOINED or HALTED -/

/-- The channels in the states `q` are dropped, the others lose their marks, and no event flag is lost (R74, R75). -/
def Dropped (q : ChanState → Bool) (s t : State) : Prop :=
  (∀ c, t.chan c = if q (s.chan c).state then droppedRecord (readingOutcome s.host.response c) (s.chan c)
    else unmarked (s.chan c)) ∧
  ∀ n, s.events.flags.getLsbD n = true → t.events.flags.getLsbD n = true

/-! ### The moves -/

/-- What a move may do besides its own change: `tick` moves the Frame Timer's slice, frame or hold or starts and stops it,
`write` a setting, `slice` and `frame` come with a drive evaluation that may assert outputs, `ends` ends a job that can
clear awaiting-summary marks, `clears` may clear event flags, `halt` enters HALTED with its cause; `calm` does none of these. -/
inductive MoveKind where
  | calm
  | tick
  | write
  | slice
  | frame (f : Nat)
  | ends
  | clears
  | halt (cause : HaltCause)

/-- One move of a step that began in `s₀`. -/
inductive Move (s₀ : State) : MoveKind → State → State → Prop
  -- the port, the events, the sampler, the outcome records
  | port {k : MoveKind} {s t : State}
      (ht : t = { s with
        host := t.host, serial := t.serial, events := t.events, resets := t.resets
        supply := { t.supply with state := s.supply.state }
        unit := { s.unit with lastCounts := t.unit.lastCounts } })
      (hf : k = .calm ∧ (∀ n, s.events.flags.getLsbD n = true → t.events.flags.getLsbD n = true) ∨ k = .clears) :
      Move s₀ k s t
  | outcome {s : State} (c : Chan) (o : OutcomeKind) (w : Option Window) (f r : Bool) :
      Move s₀ .calm s (s.setChan c { s.chan c with outcome := o, outcomeWindow := w, fresh := f, rewrite := r })
  -- the station
  | write {s : State} (id : SettingId) (v : Nat) (hs : s.station = .unjoined) (hv : id.inRange v = true) :
      Move s₀ .write s { s with settings := s.settings.write v id }
  | join {s : State} (hs : s.station = .unjoined) : Move s₀ .tick s s.startListening
  | unjoin {s : State} (hs : s.station = .halted) :
      Move s₀ .tick s { s with station := .unjoined, haltCause := .none }
  | leaveDone {s t : State} (ht : t = { offTheLine s with
        station := .unjoined, haltCause := .none, channels := t.channels, events := t.events })
      (hd : Dropped ChanState.dropsAtLeave s t) : Move s₀ .tick s t
  | halt {s t : State} (cause : HaltCause) (hc : cause ≠ .none) (hr : s.station.running = true)
      (ht : t = { offTheLine s with
        station := .halted, haltCause := cause, channels := t.channels, events := t.events })
      (hd : Dropped (fun st => st != .idle) s t) (he : t.events.isSet .halted = true) : Move s₀ (.halt cause) s t
  | reset {s t : State} (ht : t = { State.reset with
        settings := t.settings, events := t.events, host := t.host, serial := t.serial, resets := t.resets
        supply := { t.supply with state := .normal }
        pending := s.pending })
      (hs : t.settings = s.settings ∨ t.settings = Settings.reset) : Move s₀ .clears s t
  | desync {s : State} (hs : s.station.online = true) :
      Move s₀ .calm s { s with station := .desync, unit := { s.unit with refillWaiting := true } }
  | refill {s : State} (hs : s.station = .desync) (hp : s.peers ≠ []) :
      Move s₀ .calm s { s with
        peers := s.peers.map (fun p : Peer => { p with awaiting := true })
        unit := { s.unit with refillWaiting := false } }
  | refillDropped {s : State} (hs : s.station ≠ .desync) :
      Move s₀ .calm s { s with unit := { s.unit with refillWaiting := false } }
  | rejoin {s : State} (hs : s.station = .desync) (hp : ∀ p ∈ s.peers, p.awaiting = false) :
      Move s₀ .calm s { s with station := .joined }
  -- the leave and the withdrawals
  | leaveStarted {s : State} (hs : s.station.online = true) : Move s₀ .calm s s.leaveStarted
  | leaveCleared {s : State} (hw : s.unit.leaveWaiting = true) :
      Move s₀ .calm s { s with
        peers := s.peers.map (fun p : Peer => { p with awaiting := false })
        unit := { s.unit with leaveWaiting := false } }
  | dropPlacing {s : State} (c : Chan) (hc : PlacementServes s₀ → (s.chan c).state = .placing) (hj : s.unit.job ≠ some (.placement c)) :
      Move s₀ .calm s (s.modChan c Channel.toIdle)
  | withdraw {s : State} (c : Chan) (l : LineInterface) (q : List TxItem) (ws : List Chan)
      (hc : (s.chan c).state = .claiming) (hw : WithdrawalOf s c l q ws) :
      Move s₀ .calm s (State.modChan c Channel.toIdle { s with
        book := s.book.dropKey s.settings.stationNumber c
        line := l, txQueue := q, unit := { s.unit with withdrawals := ws } })
  | notWithdrawn {s : State} (c : Chan) :
      Move s₀ .calm s { s with unit := { s.unit with withdrawals := s.unit.withdrawals.filter (· != c) } }
  | clearMarks {s : State} (c : Chan) :
      Move s₀ .calm s (s.modChan c fun ch => { ch with releasePending := false, reRequest := false })
  | mark {s : State} (c : Chan) (h : s.unit.job = some (.placement c) ∨ (s.chan c).state = .claiming) :
      Move s₀ .calm s (s.modChan c fun ch => { ch with releasePending := true })
  -- the shed
  | shedStarted {s : State} (hs : s.station.online = true) (hi : s.shed.state = .idle) : Move s₀ .calm s s.shedStarted
  | shedRestarted {s : State} (su : SupplyMonitor) (r : Nat) (hs : s.station.online = true)
      (hi : s.shed.state = .shedding)
      (h : su.state = s.supply.state ∧ r = s.shed.resend ∨
        su.state = .low ∧ r = resendInterval s.settings.shedHold) :
      Move s₀ .calm s { s with supply := su, shed := { s.shed with hold := s.settings.shedHold, resend := r } }
  | supplyLow {s : State} (su : SupplyMonitor) (h : s.shed.state = .idle ∨ s.station.online = false)
      (hsu : su.state = .low) : Move s₀ .calm s { s with supply := su }
  | supplyNormal {s : State} (su : SupplyMonitor) (hsu : su.state = .normal) :
      Move s₀ .calm s { s with
        supply := su
        shed := if s.shed.state = .shedding then { s.shed with resend := 0 } else s.shed }
  | shedCounted {s : State} (h r : Nat) (hs : s.shed.state = .shedding)
      (hh : h = s.shed.hold ∨ 1 ≤ h ∧ h ≤ s.shed.hold)
      (hr : r = s.shed.resend ∨ s.supply.state = .low ∧ 1 ≤ r ∧ (r ≤ s.shed.resend ∨ r = resendInterval s.settings.shedHold)) :
      Move s₀ .calm s { s with shed := { s.shed with hold := h, resend := r } }
  | shedOver {s : State} : Move s₀ .calm s s.cancelShed
  -- time
  | slice {s : State} (hr : s.timer.running = true) (hs : s.timer.slice < 63) (hh : s.timer.hold = false) :
      Move s₀ .slice s (State.redrive { s with timer := { s.timer with slice := s.timer.slice + 1 } })
  | hold {s : State} (hs : s.station.online = true) (h63 : 63 ≤ s.timer.slice) :
      Move s₀ .tick s { s with timer := { s.timer with hold := true } }
  | frame {s : State} {k : MoveKind} (f : Nat) (hr : s.timer.running = true ∨ s.station.running = true)
      (hf : LinePhase.frameLegal s₀.line.phase → f < 256)
      (hk : k = .frame f ∨ k = .tick ∧ s.station.online = false ∧ ∀ c, (s.chan c).live = false) :
      Move s₀ k s (s.nextFrame f)
  | summaryTimer {s : State} (v : Nat) (hs : s.station.online = true) : Move s₀ .calm s { s with summaryTimer := v }
  | listenDown {s : State} (hs : s.station = .listening) (hl : 2 ≤ s.listenCount) :
      Move s₀ .calm s { s with listenCount := s.listenCount - 1 }
  | listened {s : State} (hs : s.station = .listening) :
      Move s₀ .calm s { s with
        station := .joined, listenCount := 0, summaryTimer := 0, txQueue := placeSummary s.txQueue }
  | listenAgain {s : State} (hs : s.station = .listening) :
      Move s₀ .calm s { s with listenCount := s.settings.silenceLimit }
  -- the transmit queue
  | placeShed {s : State} (hs : s.station.online = true) : Move s₀ .calm s { s with txQueue := placeShed s.txQueue }
  | placeSummary {s : State} (hs : s.station.online = true) :
      Move s₀ .calm s { s with txQueue := placeSummary s.txQueue }
  | placeSync {s : State} (f : Nat) (hf : f < 256) (hs : s.station.online = true) :
      Move s₀ .calm s { s with txQueue := placeSync f s.txQueue }
  | placeLeave {s : State} (hown : s₀.line.phase.isOwn = true)
      (hr : s₀.station.running = true → s.station.running = true) :
      Move s₀ .calm s { s with txQueue := placeLeave s.txQueue }
  | dropSyncs {s : State} : Move s₀ .calm s { s with txQueue := withdrawItems TxBody.isSync s.txQueue }
  | resend {s : State} (b : TxBody) (c : Chan) (st : ChanState) (hb : bodyServes b = some (c, st))
      (hc : (s.chan c).state = st) (hs : s.station.online = true)
      (hn : ChannelNoticesLegal s₀ → (∀ n ∈ ownChannelNotices s, n.1 ≠ c) ∧ c ∉ s.unit.withdrawals) :
      Move s₀ .calm s { s with txQueue := placeTail b s.txQueue }
  -- the line
  | lineTime {s : State} (a b : Nat) (hr : s.station.running = true) :
      Move s₀ .calm s { s with line := ⟨s.line.phase, a, b⟩ }
  | line {s : State} (l : LineInterface) (hr : s.station.running = true ∨ s.line.phase ≠ .idle)
      (ho : s.line.phase.isOwn = false) (hl : l.phase.resting ∨ l.phase = .judged .crcFailure ∨
        l.phase = .judged .malformed ∨ ∃ item, l.phase = .judged (.overrun item) ∧ Notice.frameLegal item.notice) :
      Move s₀ .calm s { s with line := l }
  | accept {s : State} (l : LineInterface) (item : RxItem) (hr : s.station.running = true)
      (hp : s.line.phase = .decoding) (hl : l.phase = .judged (.accepted item)) (hroom : s.rxQueue.length < 4)
      (ho : item.own = false) (hn : 1 ≤ item.sender ∧ item.sender ≤ 32 ∧ item.sender ≠ s.settings.stationNumber)
      (hw : item.notice.wellFormed = true) (hf : Notice.frameLegal item.notice) :
      Move s₀ .calm s { s with line := l }
  | received {s : State} (l : LineInterface) (item : RxItem) (hp : s.line.phase = .judged (.accepted item))
      (hl : l.phase.resting) : Move s₀ .calm s { s with line := l, rxQueue := s.rxQueue ++ [item] }
  | attempt {s : State} (g : Nat) (i : TxItem) (rest : List TxItem) (hs : s.station.sends = true)
      (hp : s.line.phase = .idle ∨ s.line.phase = .skipping) (hq : s.txQueue = i :: rest) :
      Move s₀ .calm s { s with
        txQueue := { i with inAttempt := true } :: rest, line := ⟨.sending (s.noticeOf i.body), g, 0⟩ }
  | echoCell {s : State} (n : Notice) (hp : s.line.phase = .sending n) :
      Move s₀ .calm s { s with line := ⟨.ownEcho n s.receiveRoom, 0, 0⟩ }
  | attemptKept {s : State} (l : LineInterface) (count : Nat) (hown : s.line.phase.isOwn = true)
      (hl : l.phase.resting) : Move s₀ .calm s { s with line := l, txQueue := keepAttempt count s.txQueue }
  | attemptDropped {s : State} (l : LineInterface) (hown : s.line.phase.isOwn = true) (hl : l.phase.resting) :
      Move s₀ .calm s { s with line := l, txQueue := dropAttempt s.txQueue }
  | attemptWithdrawn {s : State} (l : LineInterface) (i : TxItem) (c : Chan) (w : Window) (wt : Nat)
      (hown : s.line.phase.isOwn = true) (hl : l.phase.resting) (hi : attemptItem s.txQueue = some i)
      (hb : i.body = .claim c w wt) (hj : s.unit.job ≠ none) :
      Move s₀ .calm s { s with
        line := l, txQueue := dropAttempt s.txQueue
        unit := { s.unit with withdrawals := s.unit.withdrawals ++ [c] } }
  | delivered {s : State} (l : LineInterface) (n : Notice) (i : TxItem) (hp : s.line.phase = .ownEcho n true)
      (hl : l.phase.resting) (hi : attemptItem s.txQueue = some i) :
      Move s₀ .calm s { s with
        line := l, txQueue := dropAttempt s.txQueue
        rxQueue := s.rxQueue ++ [⟨true, s.settings.stationNumber, n⟩] }
  -- jobs granted and ended
  | grantEvaluate {s : State} (item : RxItem) (rest : List RxItem) (hj : s.unit.job = none)
      (hq : s.rxQueue = item :: rest) :
      Move s₀ .calm s { s.startJob (.evaluate item) with rxQueue := rest }
  | grantSweep {s : State} (hj : s.unit.job = none) (hp : 0 < s.timer.sweepPending) :
      Move s₀ .calm s { s.startJob (.sweep false) with
        timer := { s.timer with sweepPending := 0 }
        peers := s.peers.map (Peer.addSilence s.timer.sweepPending) }
  | grantHost {s : State} (tk : Taken) (hj : s.unit.job = none) : Move s₀ .calm s (s.startJob (.host tk))
  | grantPlacement {s : State} (c : Chan) (hj : s.unit.job = none) (hs : s.station = .joined)
      (hc : (s.chan c).state = .placing) : Move s₀ .calm s (s.startJob (.placement c))
  | jobOver {s : State} {k : MoveKind} (hk : k = .calm ∧ clearsMarks s.unit.job = false ∨ k = .ends) :
      Move s₀ k s { s with unit := { s.unit with job := none } }
  -- an own notice evaluated
  | ownGranted {s : State} (c : Chan) (n : Nat) (w : Window) (wt : Nat)
      (hj : s.unit.job = some (.evaluate ⟨true, n, .claim c w wt⟩)) (hc : (s.chan c).state = .claiming)
      (hr : (s.chan c).releasePending = false) : Move s₀ .ends s (s.ownGranted c)
  | ownGrantedReleasing {s : State} (c : Chan) (n : Nat) (w : Window) (wt : Nat)
      (hj : s.unit.job = some (.evaluate ⟨true, n, .claim c w wt⟩)) (hc : (s.chan c).state = .claiming) :
      Move s₀ .ends s (s.ownGrantedReleasing c)
  | ownVoid {s : State} (c : Chan) (n : Nat) (w : Window) (wt : Nat)
      (hj : s.unit.job = some (.evaluate ⟨true, n, .claim c w wt⟩)) (hc : (s.chan c).state = .claiming) :
      Move s₀ .ends s (s.ownFreed c s.grants Channel.toIdle)
  | ownVoidAgain {s : State} (c : Chan) (n : Nat) (w : Window) (wt : Nat)
      (hj : s.unit.job = some (.evaluate ⟨true, n, .claim c w wt⟩)) (hc : (s.chan c).state = .claiming)
      (hr : (s.chan c).releasePending = false) (ha : (s.chan c).attempts < 4) :
      Move s₀ .ends s (s.ownFreed c s.grants Channel.placeAgain)
  | ownReleased {s : State} (c : Chan) (n : Nat) (hj : s.unit.job = some (.evaluate ⟨true, n, .release c⟩))
      (hc : (s.chan c).state = .releasing) :
      Move s₀ .ends s (s.ownFreed c (s.grants.filter (· != c)) Channel.toIdle)
  | ownYielded {s : State} (c : Chan) (n : Nat) (hj : s.unit.job = some (.evaluate ⟨true, n, .release c⟩))
      (hc : (s.chan c).state = .releasing) :
      Move s₀ .ends s (s.ownFreed c (s.grants.filter (· != c)) Channel.placeAnew)
  -- the peers, and a heard notice evaluated
  | newPeer {s : State} (n : Nat) (notice : Notice) (hj : s.unit.job = some (.evaluate ⟨false, n, notice⟩))
      (hp : findPeer n s.peers = none) :
      Move s₀ .calm s { s with peers := insertPeer (newPeer n (decide (s.station = .desync))) s.peers }
  | report {s : State} (n : Nat) (f : Peer → Peer) (hc : clearsMarks s.unit.job = true)
      (hf : ∀ p, (f p).number = p.number ∧ (f p).silence ≤ p.silence ∧ ((f p).awaiting = true → p.awaiting = true)) :
      Move s₀ .calm s { s with peers := updatePeer n f s.peers }
  | removeStation {s : State} (n : Nat) (b : Book) (hc : clearsMarks s.unit.job = true)
      (hp : ∃ p ∈ s.peers, p.number = n) (hb : b = s.book.dropOwned n) :
      Move s₀ .calm s { s with book := b, peers := removePeer n s.peers }
  | lossNoted {s : State} (lost : Bool) (hj : s.unit.job = some (.sweep lost)) :
      Move s₀ .calm s { s with unit := { s.unit with job := some (.sweep true) } }
  | heardDrop {s : State} (n : Nat) (c : Chan) (notice : Notice)
      (hj : s.unit.job = some (.evaluate ⟨false, n, notice⟩)) :
      Move s₀ .calm s { s with book := s.book.dropKey n c }
  | heardAdd {s : State} (n : Nat) (c : Chan) (w : Window) (wt : Nat) (b : Book)
      (hj : s.unit.job = some (.evaluate ⟨false, n, .claim c w wt⟩)) (hp : ∃ p ∈ s.peers, p.number = n)
      (hb : (s.book.dropKey n c).add ⟨n, c, w, wt, .held⟩ = some b) : Move s₀ .calm s { s with book := b }
  | heardAdopt {s : State} (n budget : Nat) (ls : List Listed) (b : Book)
      (hj : s.unit.job = some (.evaluate ⟨false, n, .summary budget ls⟩)) (hp : ∃ p ∈ s.peers, p.number = n)
      (hb : b = (addListed n ls (s.book.dropOwned n)).book) : Move s₀ .calm s { s with book := b }
  -- the channels
  | request {s : State} (c : Chan) (mode : ReqMode) (start len : Nat) (hs : s.station.online = true)
      (hc : (s.chan c).state = .idle) : Move s₀ .calm s (s.acceptRequest c mode start len)
  | number {s : State} (c : Chan) : Move s₀ .calm s (s.modChan c Channel.numberPlacement)
  | place {s : State} (c : Chan) (w : Window) (b : Book) (hs : s.station.online = true)
      (hc : PlacementServes s₀ → (s.chan c).state = .placing) (hj : s.unit.job ≠ some (.placement c))
      (hb : s.book.add ⟨s.settings.stationNumber, c, w, s.settings.weight.get c, .claiming⟩ = some b) :
      Move s₀ .calm s (State.modChan c (fun ch => { ch with state := .claiming, window := some w }) { s with
        book := b, txQueue := placeTail (.claim c w (s.settings.weight.get c)) s.txQueue })
  | giveBack {s : State} (c : Chan) (again : Bool) (hs : s.station.online = true) (hc : (s.chan c).state = .held) :
      Move s₀ .calm s (s.givenBack c again)

/-- A run of moves of the kinds `P`, of a step that began in `s₀`. -/
def Moves (s₀ : State) (P : MoveKind → Prop) : State → State → Prop :=
  Relation.ReflTransGen fun s t => ∃ k, P k ∧ Move s₀ k s t

end Sys2Proof.Machine
end

section
/-! PROOFS. The shared operations as runs of moves. -/

namespace Sys2Proof.Machine

open Sys2Proof.Safety

variable {s₀ s t u : State} {P Q : MoveKind → Prop}

/-! ### Runs -/

/-- A run of moves that touch neither settings, Frame Timer, flags nor the halt. -/
abbrev Calm (s₀ : State) : State → State → Prop := Moves s₀ (· = MoveKind.calm)

theorem Moves.refl : Moves s₀ P s s := Relation.ReflTransGen.refl

theorem Moves.of_eq (h : s = t) : Moves s₀ P s t := h ▸ Moves.refl

theorem Moves.one {k : MoveKind} (m : Move s₀ k s t) (hk : P k) : Moves s₀ P s t := .single ⟨k, hk, m⟩

theorem Moves.trans (h : Moves s₀ P s t) (h' : Moves s₀ P t u) : Moves s₀ P s u := Relation.ReflTransGen.trans h h'

theorem Moves.mono (hPQ : ∀ k, P k → Q k) (h : Moves s₀ P s t) : Moves s₀ Q s t := by
  induction h with
  | refl => exact Moves.refl
  | tail _ hlast ih =>
    obtain ⟨k, hk, m⟩ := hlast
    exact ih.tail ⟨k, hPQ k hk, m⟩

theorem Calm.one (m : Move s₀ .calm s t) : Calm s₀ s t := Moves.one m rfl

theorem Calm.up (hP : P .calm) (h : Calm s₀ s t) : Moves s₀ P s t := h.mono fun _ hk => by rw [hk]; exact hP

/-- What every move keeps holds at the end of a run if it held at its start. -/
theorem Moves.keeps {inv : State → Prop} (hm : ∀ k s t, P k → Move s₀ k s t → inv s → inv t) (h : Moves s₀ P s t)
    (hi : inv s) : inv t := by
  induction h with
  | refl => exact hi
  | tail _ hlast ih =>
    obtain ⟨k, hk, m⟩ := hlast
    exact hm k _ _ hk m ih

/-! ### The port, the events and the outcomes -/

theorem calm_of_port (ht : t = { s with host := t.host, serial := t.serial }) : Calm s₀ s t :=
  Calm.one (.port (by rw [ht]) (.inl ⟨rfl, fun n h => by rw [ht]; exact h⟩))

theorem calm_of_supply (ht : t = { s with supply := { t.supply with state := s.supply.state } }) : Calm s₀ s t :=
  Calm.one (.port (by rw [ht]) (.inl ⟨rfl, fun n h => by rw [ht]; exact h⟩))

theorem raise_calm (e : Event) : Calm s₀ s (s.raise e) :=
  Calm.one (.port rfl (.inl ⟨rfl, fun n h => by simp [State.raise_flags, h]⟩))

theorem raiseIf_calm (b : Bool) (e : Event) : Calm s₀ s (s.raiseIf b e) := by
  unfold State.raiseIf
  split
  · exact raise_calm e
  · exact Moves.refl

theorem writeOutcome_calm (c : Chan) (k : OutcomeKind) (w : Option Window) : Calm s₀ s (s.writeOutcome c k w) :=
  (Calm.one (.outcome c k w true ((s.chan c).rewrite || readingOutcome s.host.response c))).trans (raise_calm _)

theorem endChannel_calm (c : Chan) (k : OutcomeKind) (hc : PlacementServes s₀ → (s.chan c).state = .placing)
    (hj : s.unit.job ≠ some (.placement c)) : Calm s₀ s (s.endChannel c k) :=
  (Calm.one (.dropPlacing c hc hj)).trans (writeOutcome_calm c k none)

/-! ### Entry to UNJOINED and HALTED -/

/-- The common part of an entry to UNJOINED by a leave and to HALTED. -/
def State.offLine (q : ChanState → Bool) (st : StationState) (cause : HaltCause) (e : Event) (s : State) : State :=
  State.raise e { (s.dropChannels q).cancelShed.goQuiet with station := st, haltCause := cause }

theorem leaveDone_eq : s.leaveDone = s.offLine ChanState.dropsAtLeave .unjoined .none .leaveDone := rfl

theorem halt_eq (cause : HaltCause) : s.halt cause = s.offLine (fun st => st != .idle) .halted cause .halted := rfl

theorem dropChannels_eq (q : ChanState → Bool) :
    ∃ chans events, s.dropChannels q = { s with channels := chans, events := events } := by
  unfold State.dropChannels State.raiseIf
  dsimp only
  split
  · exact ⟨_, _, rfl⟩
  · exact ⟨_, _, rfl⟩

theorem offLine_eq (q : ChanState → Bool) (st : StationState) (cause : HaltCause) (e : Event) :
    s.offLine q st cause e = { offTheLine s with
      station := st, haltCause := cause
      channels := (s.offLine q st cause e).channels, events := (s.offLine q st cause e).events } := by
  obtain ⟨chans, events, h⟩ := dropChannels_eq (s := s) q
  unfold State.offLine
  rw [h]
  rfl

theorem offLine_chan (q : ChanState → Bool) (st : StationState) (cause : HaltCause) (e : Event) (c : Chan) :
    (s.offLine q st cause e).chan c =
      if q (s.chan c).state then droppedRecord (readingOutcome s.host.response c) (s.chan c)
      else unmarked (s.chan c) := by
  have record : ∀ x : State, x.channels = (s.dropChannels q).channels →
      (State.raise e { x.cancelShed.goQuiet with station := st, haltCause := cause }).chan c =
        { (s.dropChannels q).chan c with shedSuspended := false } := fun x hx => by
    rw [← State.chan_congr hx c]
    exact State.cancelShed_chan x c
  have dropped : (s.dropChannels q).chan c =
      if q (s.chan c).state then droppedRecord (readingOutcome s.host.response c) (s.chan c)
      else unmarked (s.chan c) := by
    have plain : (s.dropChannels q).channels = (s.modChans fun c ch =>
        let ch' := { ch with releasePending := false, reRequest := false, live := false, shedSuspended := false }
        if q ch.state then ch'.toIdle.withOutcome (readingOutcome s.host.response c) .dropped none
        else ch').channels := by
      unfold State.dropChannels State.raiseIf
      dsimp only
      split <;> rfl
    rw [State.chan_congr plain, State.modChans_chan]
    rfl
  rw [State.offLine, record _ rfl, dropped]
  split <;> rfl

/-- The flags an entry to UNJOINED or HALTED adds (R71, R143, R145). -/
theorem offLine_flags (q : ChanState → Bool) (st : StationState) (cause : HaltCause) (e : Event) :
    (s.offLine q st cause e).events.flags = s.events.flags |||
      (if (∃ c, q (s.chan c).state = true) then eventBit .channelOutcome else 0#16) ||| eventBit e := by
  have raised : ∀ b : Bool, (s.raiseIf b .channelOutcome).events.flags =
      s.events.flags ||| (if b = true then eventBit .channelOutcome else 0#16) := fun b => by
    cases b <;> simp [State.raiseIf, State.raise_flags]
  have any : ((List.finRange 8).any fun c => q (s.chan c).state) = true ↔ ∃ c, q (s.chan c).state = true := by
    simp
  have h : (s.offLine q st cause e).events.flags =
      (s.raiseIf ((List.finRange 8).any fun c => q (s.chan c).state) .channelOutcome).events.flags ||| eventBit e := by
    unfold State.offLine State.dropChannels State.raiseIf
    dsimp only
    split <;> rfl
  rw [h, raised]
  simp only [any]

theorem offLine_dropped (q : ChanState → Bool) (st : StationState) (cause : HaltCause) (e : Event) :
    Dropped q s (s.offLine q st cause e) :=
  ⟨offLine_chan q st cause e, fun n h => by simp [offLine_flags, h]⟩

theorem leaveDone_move : Move s₀ .tick s s.leaveDone :=
  .leaveDone (offLine_eq _ _ _ _) (offLine_dropped _ _ _ _)

theorem halt_move (cause : HaltCause) (hc : cause ≠ .none) (hr : s.station.running = true) :
    Move s₀ (.halt cause) s (s.halt cause) :=
  .halt cause hc hr (offLine_eq _ _ _ _) (offLine_dropped _ _ _ _) (by
    simp [EventBlock.isSet, halt_eq, offLine_flags, eventBit_getLsbD])

/-! ### DESYNC -/

theorem returnToJoined_calm : Calm s₀ s s.returnToJoined := by
  unfold State.returnToJoined
  split
  · next h =>
    exact (Calm.one (.rejoin h.1 (by simpa using h.2))).trans (raise_calm _)
  · exact Moves.refl

theorem waitingRefill_calm : Calm s₀ s s.waitingRefill := by
  unfold State.waitingRefill
  split
  · split
    · next hd =>
      by_cases hp : s.peers = []
      · have hr : s.refill =
            State.raise .resyncDone { s with station := .joined, unit := { s.unit with refillWaiting := false } } := by
          cases s
          subst hp
          simp_all [State.refill, State.returnToJoined]
        rw [hr]
        exact ((Calm.one (.rejoin hd (by simp [hp]))).trans
          (Calm.one (.refillDropped (by simp)))).trans (raise_calm _)
      · have hr : s.refill = { s with
            peers := s.peers.map (fun p : Peer => { p with awaiting := true })
            unit := { s.unit with refillWaiting := false } } := by
          simp [State.refill, hp]
        rw [hr]
        exact Calm.one (.refill hd hp)
    · next hd => exact Calm.one (.refillDropped hd)
  · exact Moves.refl

theorem enterDesync_calm (h : s.station.online = true) : Calm s₀ s s.enterDesync := by
  have entered := (Calm.one (s₀ := s₀) (.desync h)).trans (raise_calm .desync)
  unfold State.enterDesync
  dsimp only
  split
  · exact entered.trans waitingRefill_calm
  · exact entered

theorem tableDoubt_calm : Calm s₀ s s.tableDoubt := by
  unfold State.tableDoubt
  split
  · next h => exact enterDesync_calm (by rw [h]; rfl)
  · next h => exact enterDesync_calm (by rw [h]; rfl)
  · next h => exact Calm.one (.listenAgain h)
  · exact Moves.refl

theorem overrun_calm : Calm s₀ s s.overrun := (raise_calm _).trans tableDoubt_calm

theorem tableFull_calm : Calm s₀ s s.tableFull := (raise_calm _).trans tableDoubt_calm

/-! ### Withdrawals and the leave -/

theorem withdraw_calm (c : Chan) {l : LineInterface} {q : List TxItem} {ws : List Chan}
    (hc : (s.chan c).state = .claiming) (hw : WithdrawalOf s c l q ws) :
    Calm s₀ s (State.withdraw c { s with line := l, txQueue := q, unit := { s.unit with withdrawals := ws } }) := by
  unfold State.withdraw
  rw [if_pos (by exact hc)]
  exact (Calm.one (.withdraw c l q ws hc hw)).trans (writeOutcome_calm c .withdrawn none)

theorem withdraw_of_not_claiming (c : Chan) (hc : (s.chan c).state ≠ .claiming) : s.withdraw c = s := if_neg hc

theorem waitingWithdrawal_calm (c : Chan) : Calm s₀ s (s.waitingWithdrawal c) := by
  unfold State.waitingWithdrawal
  split
  · next h =>
    by_cases hc : (s.chan c).state = .claiming
    · exact withdraw_calm c hc (.asked h)
    · rw [withdraw_of_not_claiming c (by exact hc)]
      exact Calm.one (.notWithdrawn c)
  · exact Moves.refl

theorem waitingWithdrawals_calm : Calm s₀ s s.waitingWithdrawals := by
  unfold State.waitingWithdrawals
  generalize s.unit.withdrawals = cs
  induction cs generalizing s with
  | nil => exact Moves.refl
  | cons c cs ih => exact (waitingWithdrawal_calm c).trans ih

theorem leaveChannel_unit (c : Chan) : (s.leaveChannel c).unit = s.unit := by
  unfold State.leaveChannel State.withdraw
  split
  · rfl
  · next h => simp only [h, if_true]; rfl
  · rfl

theorem leaveChannel_calm (c : Chan) (hj : s.unit.job = none) (hw : s.unit.leaveWaiting = true) :
    Calm s₀ s (s.leaveChannel c) := by
  unfold State.leaveChannel
  refine Moves.trans ?_ (Calm.one (.clearMarks c))
  split
  · next h => exact endChannel_calm c _ (fun _ => h) (by simp [hj])
  · next h => exact withdraw_calm c h (.leaving hw)
  · exact Moves.refl

theorem leaveChannels_calm (hj : s.unit.job = none) (hw : s.unit.leaveWaiting = true) :
    Calm s₀ s s.leaveChannels := by
  have each : ∀ (cs : List Chan) (s : State), s.unit.job = none → s.unit.leaveWaiting = true →
      Calm s₀ s (cs.foldl (fun s c => s.leaveChannel c) s) ∧
        (cs.foldl (fun s c => s.leaveChannel c) s).unit = s.unit := by
    intro cs
    induction cs with
    | nil => exact fun s _ _ => ⟨Moves.refl, rfl⟩
    | cons c cs ih =>
      intro s hj hw
      have hu := leaveChannel_unit (s := s) c
      obtain ⟨hm, hk⟩ := ih (s.leaveChannel c) (by rw [hu, hj]) (by rw [hu, hw])
      exact ⟨(leaveChannel_calm c hj hw).trans hm, hk.trans hu⟩
  unfold State.leaveChannels
  generalize List.finRange 8 = cs
  obtain ⟨hm, hk⟩ := each cs s hj hw
  exact hm.trans (Calm.one (.leaveCleared (by rw [hk, hw])))

theorem waitingLeave_calm (hj : s.unit.job = none) : Calm s₀ s s.waitingLeave := by
  unfold State.waitingLeave
  split
  · next h => exact leaveChannels_calm hj h
  · exact Moves.refl

/-- What waited for the unit, carried out once it is free. -/
theorem waitingWork_calm (hj : s.unit.job = none) :
    Calm s₀ s s.waitingLeave.waitingWithdrawals.waitingRefill :=
  ((waitingLeave_calm hj).trans waitingWithdrawals_calm).trans waitingRefill_calm

/-! ### Shed Control and the Supply Monitor -/

theorem sendShed_calm : Calm s₀ s s.sendShed := by
  unfold State.sendShed
  split
  · next h => exact Calm.one (.placeShed h)
  · exact Moves.refl

theorem enterShed_calm (send : Bool) (hs : s.station.online = true) (hi : s.shed.state = .idle) :
    Calm s₀ s (s.enterShed send) := by
  have started : Calm s₀ s s.shedStarted := Calm.one (.shedStarted hs hi)
  have h : s.enterShed send = (if send then s.shedStarted.sendShed else s.shedStarted).raise .shedStart := rfl
  rw [h]
  refine Moves.trans ?_ (raise_calm _)
  split
  · exact started.trans sendShed_calm
  · exact started

theorem restartShed_calm (localLow send : Bool) (hs : s.station.online = true) (hi : s.shed.state = .shedding)
    (su : SupplyMonitor) (hsu : localLow = false ∧ su.state = s.supply.state ∨ localLow = true ∧ su.state = .low) :
    Calm s₀ s (State.restartShed localLow send { s with supply := su }) := by
  have restarted : Calm s₀ s { s with supply := su, shed := { s.shed with
      hold := s.settings.shedHold
      resend := if localLow then resendInterval s.settings.shedHold else s.shed.resend } } :=
    Calm.one (.shedRestarted su _ hs hi (by
      rcases hsu with ⟨rfl, h⟩ | ⟨rfl, h⟩
      · exact .inl ⟨h, rfl⟩
      · exact .inr ⟨h, rfl⟩))
  unfold State.restartShed
  dsimp only
  split
  · exact restarted.trans sendShed_calm
  · exact restarted

/-- A cause of shedding with the supply as it stands; a local LOW comes with the supply LOW. -/
theorem shedCause_calm (localLow send : Bool) (hl : localLow = true → s.supply.state = .low) :
    Calm s₀ s (s.shedCause localLow send) := by
  unfold State.shedCause
  split
  · next hs =>
    split
    · next hi => exact enterShed_calm send hs hi
    · next hi =>
      refine restartShed_calm localLow send hs hi s.supply ?_
      cases localLow
      · exact .inl ⟨rfl, rfl⟩
      · exact .inr ⟨rfl, hl rfl⟩
  · exact Moves.refl

theorem sample_calm (sns : Nat) : Calm s₀ s (s.sample sns) := by
  unfold State.sample
  split
  · split
    · exact calm_of_supply rfl
    · split
      · by_cases hs : s.shed.state = .shedding ∧ s.station.online = true
        · have h : State.shedCause true true { s with supply := { s.supply with state := .low, history := 0 } } =
              State.restartShed true true { s with supply := { s.supply with state := .low, history := 0 } } := by
            simp [State.shedCause, hs]
          rw [h]
          exact restartShed_calm true true hs.2 hs.1 _ (.inr ⟨rfl, rfl⟩)
        · refine Moves.trans (Calm.one (.supplyLow _ ?_ rfl)) (shedCause_calm true true fun _ => rfl)
          cases hsh : s.shed.state
          · exact .inl rfl
          · exact .inr (by simpa [hsh] using hs)
      · exact Calm.one (.supplyNormal _ rfl)
  · exact calm_of_supply rfl

theorem endShed_calm : Calm s₀ s s.endShed := by
  unfold State.endShed
  split
  · exact (Calm.one .shedOver).trans (raise_calm _)
  · exact Moves.refl

theorem resendShed_calm : Calm s₀ s s.resendShed := by
  unfold State.resendShed
  split
  · next h =>
    exact (Calm.one (.shedCounted s.shed.hold _ h.1 (.inl rfl)
      (.inr ⟨h.2.1, Nat.le_max_left _ _, .inr rfl⟩))).trans sendShed_calm
  · exact Moves.refl

theorem stepShed_calm : Calm s₀ s s.stepShed := by
  unfold State.stepShed
  split
  · exact Moves.refl
  · next hs hl =>
    by_cases hr : s.shed.resend - 1 = 0
    · have h : State.resendShed { s with shed := { s.shed with resend := s.shed.resend - 1 } } =
          State.sendShed { s with shed := { s.shed with resend := resendInterval s.settings.shedHold } } := by
        simp [State.resendShed, hs, hl, hr]
      rw [h]
      exact (Calm.one (.shedCounted s.shed.hold _ hs (.inl rfl)
        (.inr ⟨hl, Nat.le_max_left _ _, .inr rfl⟩))).trans sendShed_calm
    · refine Moves.trans (Calm.one (.shedCounted s.shed.hold _ hs (.inl rfl) (.inr ⟨hl, ?_, .inl ?_⟩))) resendShed_calm
      all_goals omega
  · next hs hn =>
    by_cases hh : s.shed.hold - 1 = 0
    · have h : State.endShed { s with shed := { s.shed with hold := s.shed.hold - 1 } } =
          s.cancelShed.raise .shedEnd := by
        simp only [State.endShed, hs, hh, and_self, if_true]
        rfl
      rw [h]
      exact (Calm.one .shedOver).trans (raise_calm _)
    · refine Moves.trans (Calm.one (.shedCounted _ s.shed.resend hs (.inr ⟨?_, ?_⟩) (.inl rfl))) endShed_calm
      all_goals omega

/-! ### Frame starts -/

theorem summaryDue_calm : Calm s₀ s s.summaryDue := by
  unfold State.summaryDue
  split
  · next h => exact (Calm.one (.summaryTimer 0 h.1)).trans (Calm.one (.placeSummary h.1))
  · exact Moves.refl

/-- Listening ends, whatever the listen count stood at. -/
theorem listened_calm (s : State) (n : Nat) (hs : s.station = .listening) (hn : n = 0) :
    Calm s₀ s (State.endListening { s with listenCount := n }) := by
  subst hn
  have joined : Calm s₀ s (State.raise .joinDone { s with
      station := .joined, listenCount := 0, summaryTimer := 0, txQueue := placeSummary s.txQueue }) :=
    (Calm.one (.listened hs)).trans (raise_calm _)
  unfold State.endListening
  rw [if_pos ⟨hs, rfl⟩]
  dsimp only
  split
  · next hl => exact joined.trans (shedCause_calm true true fun _ => hl)
  · exact joined

theorem endListening_calm : Calm s₀ s s.endListening := by
  by_cases h : s.station = .listening ∧ s.listenCount = 0
  · exact listened_calm s s.listenCount h.1 h.2
  · exact Moves.of_eq (by rw [State.endListening, if_neg h])

theorem stepShed_station : s.stepShed.station = s.station := by
  unfold State.stepShed State.resendShed State.endShed State.sendShed
  split
  · rfl
  · dsimp only
    split
    · split <;> rfl
    · rfl
  · dsimp only
    split <;> rfl

theorem frameCounts_calm : Calm s₀ s s.frameCounts := by
  unfold State.frameCounts
  split
  · next h =>
    exact (stepShed_calm.trans (Calm.one (.summaryTimer _ (by rw [stepShed_station]; exact h)))).trans summaryDue_calm
  · split
    · next h =>
      by_cases hl : 2 ≤ s.listenCount
      · exact (Calm.one (.listenDown h hl)).trans endListening_calm
      · exact listened_calm s _ h (by omega)
    · exact Moves.refl

theorem ownFrame_eq : s.ownFrame = (s.nextFrame ((s.timer.frame + 1) % 256)).frameCounts := rfl

theorem ownFrame_moves (hr : s.timer.running = true ∨ s.station.running = true) (hP : P .calm)
    (hf : P (.frame ((s.timer.frame + 1) % 256)) ∨
      P .tick ∧ s.station.online = false ∧ ∀ c, (s.chan c).live = false) : Moves s₀ P s s.ownFrame := by
  rw [ownFrame_eq]
  refine Moves.trans ?_ (frameCounts_calm.up hP)
  have hlt : LinePhase.frameLegal s₀.line.phase → (s.timer.frame + 1) % 256 < 256 := fun _ =>
    Nat.mod_lt _ (by decide)
  rcases hf with hf | ⟨hf, hd⟩
  · exact Moves.one (.frame _ hr hlt (.inl rfl)) hf
  · exact Moves.one (.frame _ hr hlt (.inr ⟨rfl, hd⟩)) hf

theorem raiseIf_timer (b : Bool) (e : Event) : (s.raiseIf b e).timer = s.timer := by
  unfold State.raiseIf
  split <;> rfl

theorem realign_moves (f : Nat) (hf : LinePhase.frameLegal s₀.line.phase → f < 256) (hP : P .calm)
    (hPf : P (.frame f)) : Moves s₀ P s (s.realign f) := by
  have step : ∀ x : State, x.timer.running = true → Moves s₀ P x
      (State.nextFrame f { x with txQueue := withdrawItems TxBody.isSync x.txQueue }).frameCounts := fun x hx =>
    ((Moves.one .dropSyncs hP).trans (Moves.one (.frame f (.inl hx) hf (.inl rfl)) hPf)).trans
      (frameCounts_calm.up hP)
  unfold State.realign
  split
  · next hr => exact ((raiseIf_calm _ _).up hP).trans (step _ (by rw [raiseIf_timer]; exact hr))
  · exact Moves.refl

theorem offerSync_calm : Calm s₀ s s.offerSync := by
  unfold State.offerSync
  split
  · next h => exact Calm.one (.placeSync _ (Nat.mod_lt _ (by decide)) h.2)
  · exact Moves.refl

theorem holdWithoutSync_moves (hP : P .calm)
    (hf : s.station = .leaving → s.timer.hold = true → P (.frame ((s.timer.frame + 1) % 256)) ∨
      P .tick ∧ ∀ c, (s.chan c).live = false) : Moves s₀ P s s.holdWithoutSync := by
  unfold State.holdWithoutSync
  split
  · next h =>
    refine ownFrame_moves (.inr (by rw [h.1]; rfl)) hP ?_
    rcases hf h.1 h.2.1 with hf | ⟨hf, hl⟩
    · exact .inl hf
    · exact .inr ⟨hf, by rw [h.1]; rfl, hl⟩
  · exact offerSync_calm.up hP

end Sys2Proof.Machine
end

section
/-! PROOFS. The rows of the host port, the Table Unit and the phase line as runs of moves. -/

namespace Sys2Proof.Machine

open Sys2Proof.Safety

variable {s₀ s t u : State} {P Q : MoveKind → Prop}

/-! ### Commands at the port -/

/-- What a command taken at the port may do. -/
def PortKind (k : MoveKind) : Prop := k = .calm ∨ k = .tick ∨ k = .write

/-- The same but for the settings. -/
def StationKind (k : MoveKind) : Prop := k = .calm ∨ k = .tick

theorem answerWith_calm (r : Response) : Calm s₀ s (s.answerWith r) := calm_of_port rfl

theorem answer_calm (cmd : HostCmd) (r : ResultCode) : Calm s₀ s (s.answer cmd r) := answerWith_calm _

theorem leaveChannel_quiet (c : Chan) :
    (s.leaveChannel c).station = s.station ∧ (s.leaveChannel c).timer = s.timer ∧
      (s.leaveChannel c).txQueue = s.txQueue ∧
      ((∀ d, (s.chan d).live = false) → ∀ d, ((s.leaveChannel c).chan d).live = false) := by
  unfold State.leaveChannel State.withdraw
  split
  · refine ⟨rfl, rfl, rfl, fun h d => ?_⟩
    simp only [State.modChan_chan, State.endChannel_chan]
    split <;> simp [Channel.withOutcome, Channel.toIdle, h]
  · next hc =>
    rw [if_pos hc]
    refine ⟨rfl, rfl, rfl, fun h d => ?_⟩
    simp only [State.modChan_chan, State.endChannel_chan]
    split
    · simp [Channel.withOutcome, Channel.toIdle]
    · exact h d
  · refine ⟨rfl, rfl, rfl, fun h d => ?_⟩
    simp only [State.modChan_chan]
    split <;> simp [h]

theorem leaveChannels_quiet :
    s.leaveChannels.station = s.station ∧ s.leaveChannels.timer = s.timer ∧ s.leaveChannels.txQueue = s.txQueue ∧
      ((∀ d, (s.chan d).live = false) → ∀ d, (s.leaveChannels.chan d).live = false) := by
  have each : ∀ (cs : List Chan) (s : State),
      (cs.foldl (fun s c => s.leaveChannel c) s).station = s.station ∧
        (cs.foldl (fun s c => s.leaveChannel c) s).timer = s.timer ∧
        (cs.foldl (fun s c => s.leaveChannel c) s).txQueue = s.txQueue ∧
        ((∀ d, (s.chan d).live = false) → ∀ d, ((cs.foldl (fun s c => s.leaveChannel c) s).chan d).live = false) := by
    intro cs
    induction cs with
    | nil => exact fun s => ⟨rfl, rfl, rfl, fun h => h⟩
    | cons c cs ih =>
      intro s
      obtain ⟨h1, h2, h3, h4⟩ := leaveChannel_quiet (s := s) c
      obtain ⟨i1, i2, i3, i4⟩ := ih (s.leaveChannel c)
      exact ⟨i1.trans h1, i2.trans h2, i3.trans h3, fun h => i4 (h4 h)⟩
  unfold State.leaveChannels
  generalize List.finRange 8 = cs
  exact each cs s

theorem leaveStarted_chan (c : Chan) :
    s.leaveStarted.chan c = { s.chan c with shedSuspended := false, live := false } := by
  simp only [State.leaveStarted, State.chan_eq, State.dropDrive, State.modChans, State.cancelShed, get_ofFn]

theorem beginLeave_moves (hs : s.station.online = true) (hc : P .calm) (ht : P .tick) :
    Moves s₀ P s s.beginLeave := by
  have h : s.beginLeave = State.holdWithoutSync
      (if s.leaveStarted.unit.job.isNone then s.leaveStarted.waitingLeave else s.leaveStarted) := rfl
  have dark : ∀ d, (s.leaveStarted.chan d).live = false := fun d => by rw [leaveStarted_chan]
  rw [h]
  refine ((Calm.one (.leaveStarted hs)).up hc).trans ?_
  split
  · next hj =>
    refine ((waitingLeave_calm (by simpa using hj)).up hc).trans (holdWithoutSync_moves hc fun _ _ => .inr ⟨ht, ?_⟩)
    unfold State.waitingLeave
    split
    · exact leaveChannels_quiet.2.2.2 dark
    · exact dark
  · exact holdWithoutSync_moves hc fun _ _ => .inr ⟨ht, dark⟩

theorem startSampler_calm : Calm s₀ s s.startSampler := calm_of_supply rfl

theorem leaveCommand_moves (hc : P .calm) (ht : P .tick) : Moves s₀ P s s.leaveCommand := by
  unfold State.leaveCommand
  split
  · exact Moves.one leaveDone_move ht
  · next h => exact beginLeave_moves (by rw [h]; rfl) hc ht
  · next h => exact beginLeave_moves (by rw [h]; rfl) hc ht
  · next h =>
    exact (Moves.one (.unjoin h) ht).trans (Calm.up hc (startSampler_calm.trans (raise_calm _)))
  · exact Moves.refl

/-- What a WRITE_SETTING does. -/
def WriteKind (k : MoveKind) : Prop := k = .calm ∨ k = .write

theorem writeSetting_moves (i : SettingId) (v : Nat) (hs : s.station = .unjoined) (hv : i.inRange v = true) :
    Moves s₀ WriteKind s (s.writeSetting i v) := by
  unfold State.writeSetting
  split
  · exact Moves.refl
  · refine (Moves.one (.write i v hs hv) (.inr rfl)).trans (Calm.up (.inl rfl) ?_)
    dsimp only
    split
    · exact calm_of_supply rfl
    · exact calm_of_supply rfl
    · exact Moves.refl

theorem writeCheck_ok {ident hi lo : Byte} (h : s.writeCheck ident hi lo = .ok) :
    ∃ i, settingId ident = some i ∧ s.station = .unjoined ∧ i.inRange (pairNat hi lo) = true := by
  unfold State.writeCheck at h
  split at h
  · cases h
  · next i hi' =>
    refine ⟨i, hi', ?_⟩
    split at h
    · cases h
    · next hs =>
      split at h
      · cases h
      · next hr => exact ⟨by simpa using hs, by simpa using hr⟩

theorem markTaken_calm (cmd : HostCmd) : Calm s₀ s (s.markTaken cmd) := by
  unfold State.markTaken
  split
  · next c =>
    split
    · next h =>
      refine Calm.one (.mark _ (.inl ?_))
      simp only [State.setsPending, Bool.and_eq_true, beq_iff_eq] at h
      exact h.2
    · exact Moves.refl
  · exact Moves.refl

theorem mask_calm (m : BitVec 16) : Calm s₀ s { s with events := { s.events with mask := m } } :=
  Calm.one (.port rfl (.inl ⟨rfl, fun _ h => h⟩))

/-- A command carried out, WRITE_SETTING apart. -/
theorem carryOut_moves (tk : Taken) (hw : ∀ i hi lo, tk.cmd ≠ .writeSetting i hi lo) :
    Moves s₀ StationKind s (s.carryOut tk) := by
  have hc : StationKind .calm := .inl rfl
  have ht : StationKind .tick := .inr rfl
  unfold State.carryOut
  split
  · exact (answer_calm _ _).up hc
  · exact (answerWith_calm _).up hc
  · exact (answerWith_calm _).up hc
  · exact Calm.up hc (Moves.trans (mask_calm _) (answer_calm _ _))
  · split
    · exact (answer_calm _ _).up hc
    · exact (answerWith_calm _).up hc
  · next i hi lo h => exact absurd h (hw i hi lo)
  · refine Moves.trans ?_ ((answer_calm _ _).up hc)
    split
    · next h =>
      refine Moves.one (.join ?_) ht
      unfold State.joinCheck at h
      by_contra hs
      rw [if_pos hs] at h
      cases h
    · exact Moves.refl
  · exact (leaveCommand_moves hc ht).trans ((answer_calm _ _).up hc)
  · split
    · exact Moves.refl
    · exact (answer_calm _ _).up hc
  · split
    · exact Moves.refl
    · exact (answer_calm _ _).up hc
  · split
    · exact (answer_calm _ _).up hc
    · exact (answerWith_calm _).up hc
  · split
    · exact (answer_calm _ _).up hc
    · exact Moves.refl
  · split
    · exact (answer_calm _ _).up hc
    · exact Moves.refl
  · split
    · exact Moves.refl
    · exact (answer_calm _ _).up hc
  · split
    · exact Calm.up hc ((shedCause_calm false true (by simp)).trans (answer_calm _ _))
    · exact (answer_calm _ _).up hc

theorem carryOut_write_moves (i hi lo : Byte) (b : Bool) :
    Moves s₀ WriteKind s (s.carryOut ⟨.writeSetting i hi lo, b⟩) := by
  unfold State.carryOut
  refine Moves.trans ?_ ((answer_calm _ _).up (.inl rfl))
  split
  · next id hr hid =>
    obtain ⟨j, hj, hs, hv⟩ := writeCheck_ok hr
    rw [hid] at hj
    cases hj
    exact writeSetting_moves id _ hs hv
  · exact Moves.refl

/-- The state in which a command is carried out. -/
def State.takenState (cmd : HostCmd) (s : State) : State :=
  { s.markTaken cmd with host := { (s.markTaken cmd).host with
      current := some ⟨cmd, s.setsPending cmd⟩, response := none, phase := .waiting } }

theorem take_eq (cmd : HostCmd) : s.take cmd = (s.takenState cmd).carryOut ⟨cmd, s.setsPending cmd⟩ := rfl

theorem takenState_calm (cmd : HostCmd) : Calm s₀ s (s.takenState cmd) := (markTaken_calm cmd).trans (calm_of_port rfl)

theorem take_moves (cmd : HostCmd) : Moves s₀ PortKind s (s.take cmd) := by
  rw [take_eq]
  refine ((takenState_calm cmd).up (.inl rfl)).trans ?_
  cases cmd with
  | writeSetting i hi lo => exact (carryOut_write_moves i hi lo _).mono fun k h => h.imp_right .inr
  | _ => exact (carryOut_moves _ (by simp)).mono fun k h => h.elim .inl fun h => .inr (.inl h)

/-- A run of moves, and then it may be a command taken at the port. -/
def StepShape (s₀ : State) (P : MoveKind → Prop) (s t : State) : Prop :=
  ∃ x, Moves s₀ P s x ∧ (t = x ∨ ∃ cmd, t = x.take cmd)

theorem StepShape.of_moves (h : Moves s₀ P s t) : StepShape s₀ P s t := ⟨t, h, .inl rfl⟩

theorem StepShape.after (h : Moves s₀ P s t) (h' : StepShape s₀ P t u) : StepShape s₀ P s u := by
  obtain ⟨x, hx, hu⟩ := h'
  exact ⟨x, h.trans hx, hu⟩

theorem receive_shape (cmd : HostCmd) : StepShape s₀ (· = .calm) s (s.receive cmd) := by
  unfold State.receive
  split
  · exact .of_moves Moves.refl
  · split
    · exact .of_moves (calm_of_port rfl)
    · exact ⟨s, Moves.refl, .inr ⟨cmd, rfl⟩⟩

theorem releaseHeld_shape (hP : P .calm) : StepShape s₀ P s s.releaseHeld := by
  have freed : Moves s₀ P s { s with host := { s.host with held := none } } := (calm_of_port rfl : Calm s₀ _ _).up hP
  unfold State.releaseHeld
  dsimp only
  split
  · exact ⟨_, freed, .inr ⟨_, rfl⟩⟩
  · exact .of_moves freed

theorem portAtEntry_shape (b : Bool) (hP : P .calm) : StepShape s₀ P s (s.portAtEntry b) := by
  unfold State.portAtEntry
  split
  · exact .of_moves Moves.refl
  · split
    · split
      · exact releaseHeld_shape hP
      · exact .of_moves ((answer_calm _ _).up hP)
    · exact .of_moves Moves.refl

theorem haltReport_shape (cause : HaltCause) (hc : cause ≠ .none) (hP : P .calm) (hh : P (.halt cause)) :
    StepShape s₀ P s (s.haltReport cause) := by
  unfold State.haltReport
  split
  · next hr => exact .after (Moves.one (halt_move cause hc hr) hh) (portAtEntry_shape _ hP)
  · exact .of_moves Moves.refl

theorem closeTransaction_calm : Calm s₀ s s.closeTransaction := by
  have reads : Calm s₀ s s.closeReads := by
    unfold State.closeReads
    split
    · exact Calm.one (.port rfl (.inl ⟨rfl, fun n h => h⟩))
    · exact Calm.one (.outcome _ _ _ _ _)
    · exact Moves.refl
  unfold State.closeTransaction
  split
  · exact Moves.refl
  · exact reads.trans (calm_of_port rfl)

theorem openTransaction_calm : Calm s₀ s s.openTransaction := by
  unfold State.openTransaction
  split
  · exact Moves.refl
  · split <;> exact calm_of_port rfl

theorem showMarker_calm : Calm s₀ s s.showMarker := by
  unfold State.showMarker
  split
  · exact calm_of_port rfl
  · exact Moves.refl

theorem flagByteEnds_moves (hP : P .clears) : Moves s₀ P s s.flagByteEnds := by
  unfold State.flagByteEnds
  split
  · split
    · exact Moves.one (.port rfl (.inr rfl)) hP
    · exact Moves.refl
  · exact Moves.refl

theorem outcomeByteEnds_calm : Calm s₀ s s.outcomeByteEnds := by
  unfold State.outcomeByteEnds
  split
  · exact (calm_of_port rfl).trans (Calm.one (.outcome _ _ _ _ _))
  · exact Moves.refl

/-! ### The Table Unit -/

theorem grantEvaluate_calm : Calm s₀ s s.grantEvaluate := by
  unfold State.grantEvaluate
  split
  · exact Moves.refl
  · next item rest h =>
    split
    · next hj => exact Calm.one (.grantEvaluate item rest (by simpa [State.unitFree] using hj) h)
    · exact Moves.refl

theorem grantSweep_calm : Calm s₀ s s.grantSweep := by
  unfold State.grantSweep
  split
  · next h => exact Calm.one (.grantSweep (by simpa [State.unitFree] using h.1) h.2.2)
  · exact Moves.refl

theorem grantHost_calm : Calm s₀ s s.grantHost := by
  unfold State.grantHost
  split
  · next h =>
    split
    · exact Calm.one (.grantHost _ (by simpa [State.unitFree] using h.1))
    · exact Moves.refl
  · exact Moves.refl

theorem grantPlacement_calm : Calm s₀ s s.grantPlacement := by
  unfold State.grantPlacement
  split
  · next h =>
    split
    · next c hc =>
      exact Calm.one (.grantPlacement c (by simpa [State.unitFree] using h.1) h.2.2.2.2
        (by simpa using List.find?_some hc))
    · exact Moves.refl
  · exact Moves.refl

theorem sendRelease_of_online (c : Chan) (h : s.station.online = true) :
    s.sendRelease c = { s with txQueue := placeTail (.release c) s.txQueue } := if_pos h

theorem acceptRelease_calm (c : Chan) (hs : s.station.online = true) (hj : s.unit.job ≠ some (.placement c)) :
    Calm s₀ s (s.acceptRelease c) := by
  unfold State.acceptRelease
  split
  · next h => exact endChannel_calm c _ (fun _ => h) hj
  · next h =>
    split
    · next hq => exact withdraw_calm c h (.queued hq)
    · exact Calm.one (.mark c (.inr h))
  · next h =>
    have hg : Move s₀ .calm s (s.givenBack c (s.chan c).reRequest) := .giveBack c _ hs h
    have same : s.givenBack c (s.chan c).reRequest = State.sendRelease c
        (State.modChan c (fun ch => { ch with state := .releasing, live := false })
          { s with book := s.book.restateKey s.settings.stationNumber c .releasing }).trimDrive := rfl
    exact Calm.one (same ▸ hg)
  · exact Moves.refl

theorem hostChange_calm (tk : Taken) (hj : s.unit.job = some (.host tk)) : Calm s₀ s (s.hostChange tk) := by
  have notPlacing : ∀ c, s.unit.job ≠ some (.placement c) := by simp [hj]
  unfold State.hostChange
  split
  · next c m st l =>
    split
    · next h =>
      unfold State.requestCheck at h
      split at h
      · cases h
      split at h
      · cases h
      split at h
      · cases h
      next hs =>
      split at h
      · cases h
      next hc => exact Calm.one (.request _ _ _ _ (by simpa using hs) (by simpa using hc))
    · exact Moves.refl
  · next c =>
    split
    · next h =>
      obtain ⟨h, hp⟩ := h
      refine acceptRelease_calm _ ?_ (notPlacing _)
      unfold State.releaseCheck at h
      split at h
      · cases h
      split at h
      · next hb => simp [hb] at hp
      split at h
      · cases h
      next hs => simpa using hs
    · exact Moves.refl
  · exact Moves.refl

theorem withdraw_unit (c : Chan) : (s.withdraw c).unit = s.unit := by
  unfold State.withdraw
  split <;> rfl

theorem sendRelease_unit (c : Chan) : (s.sendRelease c).unit = s.unit := by
  unfold State.sendRelease
  split <;> rfl

theorem hostChange_unit (tk : Taken) : (s.hostChange tk).unit = s.unit := by
  unfold State.hostChange
  split
  · split <;> rfl
  · split
    · unfold State.acceptRelease
      split
      · rfl
      · split
        · rw [withdraw_unit]
        · rfl
      · dsimp only
        rw [sendRelease_unit]
        rfl
      · rfl
    · rfl
  · rfl

theorem endHost_shape (tk : Taken) (hj : s.unit.job = some (.host tk)) (hP : P .calm) :
    StepShape s₀ P s (s.endHost tk) := by
  have done : Calm s₀ s (s.endJob (.host tk)) := by
    refine (hostChange_calm tk hj).trans (Moves.trans (Calm.one (.jobOver (.inl ⟨rfl, ?_⟩))) (waitingWork_calm rfl))
    rw [hostChange_unit, hj]
    rfl
  unfold State.endHost
  dsimp only
  split
  · exact .after (done.up hP) (releaseHeld_shape hP)
  · exact .of_moves (Calm.up hP (done.trans (answerWith_calm _)))

theorem placementResult_calm (c : Chan) (hs : s.station.online = true)
    (hc : PlacementServes s₀ → (s.chan c).state = .placing)
    (hj : s.unit.job ≠ some (.placement c)) : Calm s₀ s (s.placementResult c) := by
  unfold State.placementResult
  split
  · exact endChannel_calm c _ hc hj
  · next w _ =>
    split
    · exact endChannel_calm c _ hc hj
    · next b hb =>
      split
      · exact endChannel_calm c _ hc hj
      · exact Calm.one (.place c w b hs hc hj hb)

/-- A placement's result is the same with its job already over. -/
theorem placementResult_jobOver (c : Chan) (j : Option Job) :
    { s.placementResult c with unit := { (s.placementResult c).unit with job := j } } =
      State.placementResult c { s with unit := { s.unit with job := j } } := by
  unfold State.placementResult
  have hw : State.placementWindow c { s with unit := { s.unit with job := j } } = s.placementWindow c := rfl
  have hc : State.chan { s with unit := { s.unit with job := j } } c = s.chan c := rfl
  rw [hw, hc]
  cases s.placementWindow c with
  | none => rfl
  | some w =>
    dsimp only
    split
    · rfl
    · split <;> rfl

theorem endPlacement_calm (c : Chan) (hj : s.unit.job = some (.placement c))
    (hc : PlacementServes s₀ → (s.chan c).state = .placing) :
    Calm s₀ s (s.endPlacement c) := by
  let x := s.modChan c Channel.numberPlacement
  have numbered : Calm s₀ s { x with unit := { x.unit with job := none } } :=
    (Calm.one (.number c)).trans (Calm.one (.jobOver (.inl ⟨rfl, by
      have : (s.modChan c Channel.numberPlacement).unit = s.unit := rfl
      rw [this, hj]
      rfl⟩)))
  have hchan : PlacementServes s₀ → (x.chan c).state = .placing := fun h => by
    simp only [x, State.modChan_chan, if_true]
    exact hc h
  have changed : Calm s₀ s
      { s.jobChanges (.placement c) with unit := { (s.jobChanges (.placement c)).unit with job := none } } := by
    unfold State.jobChanges
    dsimp only
    split
    · next hs =>
      rw [placementResult_jobOver]
      exact numbered.trans (placementResult_calm c hs hchan (by simp))
    · exact numbered
  exact changed.trans (waitingWork_calm rfl)

end Sys2Proof.Machine
end

section
/-! PROOFS. The jobs that evaluate and sweep, and the rows of time, as runs of moves. -/

namespace Sys2Proof.Machine

open Sys2Proof.Safety

variable {s₀ s t u : State} {P Q : MoveKind → Prop}

/-! ### Moves that keep the station running -/

/-- No move but the end of a leave, a halt and a reset takes a running station off the line. -/
theorem Move.running {k : MoveKind} (m : Move s₀ k s t) (hk : k = .calm ∨ ∃ f, k = .frame f)
    (hr : s.station.running = true) : t.station.running = true := by
  cases m with
  | port ht =>
    have h : t.station = s.station := by rw [ht]
    rw [h]
    exact hr
  | write | join | unjoin | leaveDone | halt | reset | hold | slice => simp at hk
  | ownGrantedReleasing | ownGranted | ownVoid | ownVoidAgain | ownReleased | ownYielded => simp at hk
  | desync | leaveStarted | listened | rejoin => rfl
  | frame f _ _ _ =>
    unfold State.nextFrame State.frameChannels
    split <;> exact hr
  | giveBack c again hs =>
    unfold State.givenBack State.sendRelease
    split <;> exact hr
  | _ => exact hr

/-- Frame starts of the frames `C`, and moves that are calm. -/
def FrameKind (C : Nat → Prop) (k : MoveKind) : Prop := k = .calm ∨ ∃ f, k = .frame f ∧ C f

theorem Moves.running {C : Nat → Prop} (h : Moves s₀ (FrameKind C) s t) (hr : s.station.running = true) :
    t.station.running = true :=
  h.keeps (fun _ _ _ hk m => m.running (hk.imp_right fun ⟨f, hf, _⟩ => ⟨f, hf⟩)) hr

/-- Settings are written in UNJOINED and reset, and stand in every other move (R136). -/
theorem Move.settings {k : MoveKind} (m : Move s₀ k s t) (hk : k ≠ .write ∧ k ≠ .clears) :
    t.settings = s.settings := by
  cases m with
  | port ht => rw [ht]
  | write => exact absurd rfl hk.1
  | reset => exact absurd rfl hk.2
  | leaveDone ht => rw [ht]; rfl
  | halt _ _ _ ht => rw [ht]; rfl
  | frame f _ _ _ =>
    unfold State.nextFrame State.frameChannels
    split <;> rfl
  | giveBack c again hs =>
    unfold State.givenBack State.sendRelease
    split <;> rfl
  | ownGrantedReleasing =>
    unfold State.ownGrantedReleasing State.sendRelease
    split <;> rfl
  | _ => rfl

theorem Moves.settings (hP : ∀ k, P k → k ≠ .write ∧ k ≠ .clears) (h : Moves s₀ P s t) :
    t.settings = s.settings :=
  h.keeps (inv := fun x => x.settings = s.settings) (fun _ _ _ hk m hx => (m.settings (hP _ hk)).trans hx) rfl

/-! ### EVALUATE: an own notice -/

/-- What an EVALUATE or a SWEEP does short of its return to JOINED. -/
def EndKind (k : MoveKind) : Prop := k = .calm ∨ k = .ends

theorem writeOutcome_jobOver (c : Chan) (k : OutcomeKind) (w : Option Window) :
    unitDone (s.writeOutcome c k w) = (unitDone s).writeOutcome c k w := rfl

theorem unitDone_sendRelease (c : Chan) : unitDone (s.sendRelease c) = (unitDone s).sendRelease c := by
  unfold State.sendRelease
  split
  · next h => rw [if_pos (by exact h)]; rfl
  · next h => rw [if_neg (by exact h)]

theorem jobOver_ends : Moves s₀ EndKind s (unitDone s) := Moves.one (.jobOver (.inr rfl)) (.inr rfl)

theorem ownClaim_moves (n : Nat) (c : Chan) (w : Window) (wt : Nat)
    (hj : s.unit.job = some (.evaluate ⟨true, n, .claim c w wt⟩)) :
    Moves s₀ EndKind s (unitDone (s.ownClaim c w wt)) := by
  have outcome : ∀ (x : State) (c : Chan) (k : OutcomeKind) (w : Option Window),
      Moves s₀ EndKind x (x.writeOutcome c k w) := fun x c k w => (writeOutcome_calm c k w).up (.inl rfl)
  unfold State.ownClaim
  split
  · next hc =>
    split
    · unfold State.grantChannel
      dsimp only
      split
      · next hr =>
        refine Moves.trans (Moves.one (.ownGrantedReleasing c n w wt hj hc) (.inr rfl)) (Moves.of_eq ?_)
        rw [unitDone_sendRelease]
        rfl
      · next hr =>
        exact Moves.trans (Moves.one (.ownGranted c n w wt hj hc (by simpa [State.chan] using hr)) (.inr rfl))
          (outcome (s.ownGranted c) c .granted _)
    · have freed : Moves s₀ EndKind s (s.ownFreed c s.grants Channel.toIdle) :=
        Moves.one (.ownVoid c n w wt hj hc) (.inr rfl)
      unfold State.voidChannel
      split
      · exact freed.trans (outcome (s.ownFreed c s.grants Channel.toIdle) c .withdrawn none)
      · next hr =>
        split
        · next ha => exact Moves.one (.ownVoidAgain c n w wt hj hc (by simpa [State.chan] using hr) ha) (.inr rfl)
        · exact freed.trans (outcome (s.ownFreed c s.grants Channel.toIdle) c .refusedContested none)
  · exact jobOver_ends

theorem ownRelease_moves (n : Nat) (c : Chan) (hj : s.unit.job = some (.evaluate ⟨true, n, .release c⟩)) :
    Moves s₀ EndKind s (unitDone (s.ownRelease c)) := by
  have outcome : ∀ (x : State) (c : Chan) (k : OutcomeKind) (w : Option Window),
      Moves s₀ EndKind x (x.writeOutcome c k w) := fun x c k w => (writeOutcome_calm c k w).up (.inl rfl)
  unfold State.ownRelease
  split
  · next hc =>
    dsimp only
    split
    · exact Moves.trans (Moves.one (.ownYielded c n hj hc) (.inr rfl))
        (outcome (s.ownFreed c (s.grants.filter (· != c)) Channel.placeAnew) c .yielded _)
    · exact Moves.trans (Moves.one (.ownReleased c n hj hc) (.inr rfl))
        (outcome (s.ownFreed c (s.grants.filter (· != c)) Channel.toIdle) c .released _)
  · exact jobOver_ends

theorem ownEffect_moves (n : Nat) (notice : Notice) (hj : s.unit.job = some (.evaluate ⟨true, n, notice⟩)) :
    Moves s₀ EndKind s (unitDone (s.ownEffect notice)) := by
  cases notice with
  | release c => exact ownRelease_moves n c hj
  | claim c w wt => exact ownClaim_moves n c w wt hj
  | _ => exact jobOver_ends

/-! ### EVALUATE: a heard notice -/

theorem findPeer_isSome (n : Nat) (ps : List Peer) : (findPeer n ps).isSome = true ↔ ∃ p ∈ ps, p.number = n := by
  simp [findPeer, List.find?_isSome]

theorem exists_updatePeer {n m : Nat} {f : Peer → Peer} {ps : List Peer} (hf : ∀ p, (f p).number = p.number) :
    (∃ p ∈ updatePeer n f ps, p.number = m) ↔ ∃ p ∈ ps, p.number = m := by
  have number : ∀ p : Peer, (if p.number = n then f p else p).number = p.number := fun p => by
    split <;> simp [hf]
  constructor
  · rintro ⟨q, hq, rfl⟩
    obtain ⟨p, hp, rfl⟩ := List.mem_map.1 hq
    exact ⟨p, hp, (number p).symm⟩
  · rintro ⟨p, hp, rfl⟩
    exact ⟨_, List.mem_map.2 ⟨p, hp, rfl⟩, number p⟩

theorem mem_insertPeer (p q : Peer) (ps : List Peer) : q ∈ insertPeer p ps ↔ q = p ∨ q ∈ ps := by
  induction ps with
  | nil => simp [insertPeer]
  | cons r t ih =>
    unfold insertPeer
    split
    · simp
    · simp only [List.mem_cons, ih]
      tauto

theorem settlePeer_unit (n : Nat) (notice : Notice) : (s.settlePeer n notice).unit = s.unit := by
  unfold State.settlePeer
  split
  · rfl
  · split <;> rfl

theorem settlePeer_calm (n : Nat) (notice : Notice) (hj : s.unit.job = some (.evaluate ⟨false, n, notice⟩)) :
    Calm s₀ s (s.settlePeer n notice) := by
  unfold State.settlePeer
  split
  · exact Calm.one (.report n _ (by rw [hj]; rfl) fun p => ⟨rfl, Nat.zero_le _, fun h => h⟩)
  · next hp =>
    split
    · exact Moves.refl
    · exact (Calm.one (.newPeer n notice hj (by simpa using hp))).trans (raise_calm _)

/-- After a notice other than a LEAVE its sender has a record (R114). -/
theorem settlePeer_known (n : Nat) (notice : Notice) (hn : notice ≠ .leave) :
    ∃ p ∈ (s.settlePeer n notice).peers, p.number = n := by
  unfold State.settlePeer
  split
  · next h =>
    exact (exists_updatePeer (f := fun p => { p with silence := 0 }) fun _ => rfl).2
      ((findPeer_isSome n s.peers).1 h)
  · exact ⟨newPeer n _, (mem_insertPeer _ _ _).2 (.inl rfl), rfl⟩

theorem heardClaim_calm (n : Nat) (c : Chan) (w : Window) (wt : Nat)
    (hj : s.unit.job = some (.evaluate ⟨false, n, .claim c w wt⟩)) (hp : ∃ p ∈ s.peers, p.number = n) :
    Calm s₀ s (s.heardClaim n c w wt) := by
  have dropped : Calm s₀ s { s with book := s.book.dropKey n c } := Calm.one (.heardDrop n c _ hj)
  unfold State.heardClaim
  dsimp only
  split
  · split
    · next b hb => exact Calm.one (.heardAdd n c w wt b hj hp hb)
    · exact dropped.trans tableFull_calm
  · exact dropped

theorem overcommitCheck_calm (added : List Window) : Calm s₀ s (s.overcommitCheck added) := by
  unfold State.overcommitCheck
  split
  · exact Moves.refl
  · refine (raise_calm .overcommit).trans ?_
    dsimp only
    split
    · next hs =>
      split
      · next c hc =>
        have held := List.find?_some hc
        simp only [Bool.and_eq_true, beq_iff_eq] at held
        exact Calm.one (.giveBack c true hs held.1)
      · exact Moves.refl
    · exact Moves.refl

theorem adopt_calm (n budget : Nat) (ls : List Listed)
    (hj : s.unit.job = some (.evaluate ⟨false, n, .summary budget ls⟩)) (hp : ∃ p ∈ s.peers, p.number = n) :
    Calm s₀ s (s.adopt n budget ls) := by
  have adopted : Calm s₀ s { s with
      book := (addListed n ls (s.book.dropOwned n)).book
      peers := updatePeer n (fun p => { p.report s.settings.budget budget with
        awaiting := p.awaiting &&
          !(decide (s.station = .desync) && (addListed n ls (s.book.dropOwned n)).complete) }) s.peers } :=
    (Calm.one (.heardAdopt n budget ls _ hj hp rfl)).trans (Calm.one (.report n _ (by simp only [hj]; rfl)
      fun p => ⟨rfl, Nat.le_refl _, fun h => by simp only [Bool.and_eq_true] at h; exact h.1⟩))
  have checked := (adopted.trans (raiseIf_calm (firstMismatch n s.settings.budget budget s.peers)
    .budgetMismatch)).trans (overcommitCheck_calm (addListed n ls (s.book.dropOwned n)).added)
  unfold State.adopt
  dsimp only
  split
  · exact checked
  · exact checked.trans tableFull_calm

theorem heardEffect_calm (n : Nat) (notice : Notice) (hj : s.unit.job = some (.evaluate ⟨false, n, notice⟩))
    (hp : notice ≠ .leave → ∃ p ∈ s.peers, p.number = n) : Calm s₀ s (s.heardEffect n notice) := by
  cases notice with
  | sync f => exact Moves.refl
  | shed => exact Moves.refl
  | release c => exact Calm.one (.heardDrop n c _ hj)
  | claim c w wt => exact heardClaim_calm n c w wt hj (hp (by simp))
  | leave =>
    unfold State.heardEffect State.heardLeave
    dsimp only
    split
    · next h =>
      exact (Calm.one (.removeStation n _ (by rw [hj]; rfl) ((findPeer_isSome n s.peers).1 h) rfl)).trans (raise_calm _)
    · exact Moves.refl
  | summary b ls => exact adopt_calm n b ls hj (hp (by simp))

/-- The end of an EVALUATE job short of the return to JOINED. -/
theorem evaluated_moves (item : RxItem) (hj : s.unit.job = some (.evaluate item)) :
    Moves s₀ EndKind s (s.endJob (.evaluate item)) := by
  obtain ⟨own, n, notice⟩ := item
  refine Moves.trans (t := unitDone (s.jobChanges (.evaluate ⟨own, n, notice⟩))) ?_
    (Calm.up (.inl rfl) (waitingWork_calm rfl))
  cases own
  · refine Moves.trans (Calm.up (.inl rfl) ?_) jobOver_ends
    have hu := settlePeer_unit (s := s) n notice
    exact (settlePeer_calm n notice hj).trans
      (heardEffect_calm n notice (by rw [hu, hj]) (settlePeer_known n notice))
  · exact ownEffect_moves n notice hj

/-- What the end of an EVALUATE or SWEEP job may do. -/
def FinishKind (k : MoveKind) : Prop := k = .calm ∨ k = .tick ∨ k = .ends

theorem EndKind.finish {k : MoveKind} (h : EndKind k) : FinishKind k := h.imp_right .inr

theorem finishEvaluate_shape : StepShape s₀ FinishKind s s.finishEvaluate := by
  unfold State.finishEvaluate
  split
  · next item hj =>
    unfold State.endEvaluate
    split
    · exact .after (Moves.one leaveDone_move (.inr (.inl rfl))) (portAtEntry_shape _ (.inl rfl))
    · exact .of_moves (((evaluated_moves item hj).mono fun _ => EndKind.finish).trans
        (Calm.up (.inl rfl) returnToJoined_calm))
  · exact .of_moves Moves.refl

/-! ### SWEEP -/

theorem losePeer_moves (n : Nat) : Calm s₀ s (s.losePeer n) := by
  rcases s.losePeer_cases n with ⟨lost, hj, hn, he⟩ | he
  · obtain ⟨p, hp, hpn, _⟩ := s.nextLost_first hn
    rw [he]
    exact (Calm.one (.removeStation n _ (by rw [hj]; rfl) ⟨p, hp, hpn⟩ rfl)).trans (Calm.one (.lossNoted lost hj))
  · exact Moves.of_eq he.symm

theorem losePeers_calm : Calm s₀ s s.losePeers := by
  unfold State.losePeers
  generalize s.peers.map (·.number) = ns
  induction ns generalizing s with
  | nil => exact Moves.refl
  | cons n ns ih => exact (losePeer_moves n).trans ih

theorem swept_moves (lost : Bool) : Moves s₀ EndKind s (s.endJob (.sweep lost)) := by
  have lose : Calm s₀ s (s.jobChanges (.sweep lost)) := losePeers_calm.trans (raiseIf_calm _ _)
  exact ((Calm.up (.inl rfl) lose).trans jobOver_ends).trans (Calm.up (.inl rfl) (waitingWork_calm rfl))

theorem finishSweep_moves : Moves s₀ FinishKind s s.finishSweep := by
  unfold State.finishSweep
  split
  · exact ((swept_moves _).mono fun _ => EndKind.finish).trans (Calm.up (.inl rfl) returnToJoined_calm)
  · exact Moves.refl

/-! ### HOST and PLACEMENT -/

theorem finishHost_shape : StepShape s₀ (· = .calm) s s.finishHost := by
  unfold State.finishHost
  split
  · next tk hj => exact endHost_shape tk hj rfl
  · exact .of_moves Moves.refl

theorem finishPlacement_calm (h : PlacementServes s₀ → PlacementServes s) : Calm s₀ s s.finishPlacement := by
  unfold State.finishPlacement
  split
  · next c hj => exact endPlacement_calm c hj fun h0 => h h0 c hj
  · exact Moves.refl

/-! ### Time -/

theorem endSlice_moves (sns : Nat) : Moves s₀ (fun k => k = .calm ∨ k = .slice) s (s.endSlice sns) := by
  unfold State.endSlice
  split
  · next h =>
    exact (Moves.one (.slice h.1 h.2.2 (by simpa using h.2.1)) (.inr rfl)).trans
      (Calm.up (.inl rfl) (sample_calm sns))
  · exact Moves.refl

theorem sendShed_frame : s.sendShed.station = s.station ∧ s.sendShed.timer = s.timer := by
  unfold State.sendShed
  split <;> exact ⟨rfl, rfl⟩

theorem shedCause_frame (a b : Bool) :
    (s.shedCause a b).station = s.station ∧ (s.shedCause a b).timer = s.timer := by
  have send : ∀ x : State, (if b then x.sendShed else x).station = x.station ∧
      (if b then x.sendShed else x).timer = x.timer := fun x => by
    cases b
    · exact ⟨rfl, rfl⟩
    · exact sendShed_frame
  unfold State.shedCause
  split
  · split
    · exact send s.shedStarted
    · exact send { s with shed := { s.shed with
        hold := s.settings.shedHold
        resend := if a then resendInterval s.settings.shedHold else s.shed.resend } }
  · exact ⟨rfl, rfl⟩

theorem sample_frame (sns : Nat) : (s.sample sns).station = s.station ∧ (s.sample sns).timer = s.timer := by
  unfold State.sample
  split
  · split
    · exact ⟨rfl, rfl⟩
    · split
      · exact shedCause_frame true true
      · exact ⟨rfl, rfl⟩
  · exact ⟨rfl, rfl⟩

/-- The end of slice 63 begins a hold or a frame (R41, R42). -/
theorem expireFrame_moves (sns : Nat) :
    Moves s₀ StationKind s (s.expireFrame sns) ∨ Moves s₀ (FrameKind fun _ => True) s (s.expireFrame sns) := by
  unfold State.expireFrame
  split
  · next h =>
    obtain ⟨hr, hh, h63⟩ := h
    obtain ⟨hst, hti⟩ := sample_frame (s := s) sns
    dsimp only
    split
    · next ho =>
      refine .inl (((sample_calm sns).up (.inl rfl)).trans ?_)
      exact (Moves.one (.hold ho (by rw [hti]; exact h63)) (.inr rfl)).trans (Calm.up (.inl rfl) offerSync_calm)
    · exact .inr (((sample_calm sns).up (.inl rfl)).trans
        (ownFrame_moves (.inl (by rw [hti]; exact hr)) (.inl rfl) (.inl (.inr ⟨_, rfl, trivial⟩))))
  · exact .inl Moves.refl

theorem tickHold_calm (sns : Nat) : Calm s₀ s (s.tickHold sns) := by
  unfold State.tickHold
  split
  · exact (sample_calm sns).trans offerSync_calm
  · exact Moves.refl

theorem tickSampler_calm (sns : Nat) : Calm s₀ s (s.tickSampler sns) := by
  unfold State.tickSampler
  split
  · exact sample_calm sns
  · exact Moves.refl

end Sys2Proof.Machine
end

section
/-! PROOFS. The rows of the phase line as runs of moves, every row of the table with them, and the step of the block. -/

namespace Sys2Proof.Machine

open Sys2Proof.Safety

variable {s₀ s t u : State} {P Q : MoveKind → Prop}

/-! ### Values read from cells -/

theorem bitsNat_lt (cells : List Bool) : bitsNat cells < 2 ^ cells.length := by
  have fold : ∀ (cells : List Bool) (m k : Nat), m < 2 ^ k →
      cells.foldl (fun n b => 2 * n + b.toNat) m < 2 ^ (k + cells.length) := by
    intro cells
    induction cells with
    | nil => exact fun m k h => h
    | cons b t ih =>
      intro m k h
      have hb := b.toNat_lt
      have := ih (2 * m + b.toNat) (k + 1) (by rw [pow_succ]; omega)
      rwa [Nat.add_right_comm, Nat.add_assoc] at this
  simpa [bitsNat] using fold cells 0 0 (by decide)

theorem field_lt (off len : Nat) (cells : List Bool) : field off len cells < 2 ^ len :=
  (bitsNat_lt _).trans_le (Nat.pow_le_pow_right (by decide) (List.length_take_le _ _))

theorem readPayload_frameLegal (kind : Nat) (cells : List Bool) : Notice.frameLegal (readPayload kind cells) := by
  unfold readPayload
  split
  case h_1 => exact field_lt 0 8 cells
  all_goals trivial

/-- A good notice has a sender from 1 to 32, well-formed fields and a frame number that a Frame Timer can take. -/
theorem decodeNotice_good {cells : List Bool} {n : Nat} {notice : Notice} (h : decodeNotice cells = .good n notice) :
    1 ≤ n ∧ n ≤ 32 ∧ notice.wellFormed = true ∧ Notice.frameLegal notice := by
  have hs := field_lt 3 5 cells
  unfold decodeNotice at h
  iterate 5
    split at h
    · cases h
  dsimp only at h
  iterate 2
    split at h
    · cases h
  split at h
  · next hw =>
    cases h
    exact ⟨by omega, by omega, hw, readPayload_frameLegal _ _⟩
  · cases h

/-! ### What moves on the unit and the line leave of the queues -/

/-- The transmit queue, the receive queue, the line, the running job and the waiting withdrawals are those of `s`. -/
def SameQueues (x s : State) : Prop :=
  x.txQueue = s.txQueue ∧ x.rxQueue = s.rxQueue ∧ x.line = s.line ∧ x.unit.job = s.unit.job ∧
    x.unit.withdrawals = s.unit.withdrawals

theorem SameQueues.refl (s : State) : SameQueues s s := ⟨rfl, rfl, rfl, rfl, rfl⟩

theorem returnToJoined_queues : SameQueues s.returnToJoined s := by
  unfold State.returnToJoined
  split <;> exact SameQueues.refl _

theorem waitingRefill_queues : SameQueues s.waitingRefill s := by
  unfold State.waitingRefill State.refill
  split
  · split
    · dsimp only
      split
      · exact returnToJoined_queues
      · exact SameQueues.refl _
    · exact SameQueues.refl _
  · exact SameQueues.refl _

theorem tableDoubt_queues : SameQueues s.tableDoubt s := by
  have entered : SameQueues s.enterDesync s := by
    unfold State.enterDesync
    dsimp only
    split
    · exact waitingRefill_queues
    · exact SameQueues.refl _
  unfold State.tableDoubt
  split
  · exact entered
  · exact entered
  · exact SameQueues.refl _
  · exact SameQueues.refl _

theorem raiseIf_queues (b : Bool) (e : Event) : SameQueues (s.raiseIf b e) s := by
  unfold State.raiseIf
  split <;> exact SameQueues.refl _

/-- A doubt about the table brings no station onto the line. -/
theorem tableDoubt_online (h : s.tableDoubt.station.online = true) : s.station.online = true := by
  unfold State.tableDoubt at h
  split at h
  · next hs => rw [hs]; rfl
  · next hs => rw [hs]; rfl
  · exact h
  · exact h

/-! ### Notices on their way to evaluation -/

/-- The accepted notice on the line. -/
def LinePhase.acceptedItems : LinePhase → List RxItem
  | .judged (.accepted item) => [item]
  | _ => []

/-- The notice a running EVALUATE job took. -/
def jobItems : Option Job → List RxItem
  | some (.evaluate item) => [item]
  | _ => []

theorem receivedItems_eq : receivedItems s = s.rxQueue ++ s.line.phase.acceptedItems ++ jobItems s.unit.job := by
  unfold receivedItems LinePhase.acceptedItems jobItems
  rfl

theorem acceptedItems_resting {p : LinePhase} (h : p.resting) : p.acceptedItems = [] := by
  rcases h with rfl | rfl | rfl <;> rfl

theorem acceptedItems_own {p : LinePhase} (h : p.isOwn = true) : p.acceptedItems = [] := by
  cases p <;> first | rfl | cases h

/-! ### An ended attempt and the notice of its channel -/

/-- Once the attempt of a channel's CLAIM or RELEASE has left the queue, the channel has no notice on its way, and no
withdrawal of it waits (R80). -/
theorem noNotice_of_dropped {x : State} {i : TxItem} {c : Chan} {st : ChanState} (hN : ChannelNoticesLegal s)
    (hon : s.station.online = true)
    (hown : s.line.phase.isOwn = true) (hi : attemptItem s.txQueue = some i) (hb : bodyServes i.body = some (c, st))
    (hx : SameQueues x { s with line := x.line, txQueue := dropAttempt s.txQueue }) (hl : x.line.phase.resting) :
    (∀ n ∈ ownChannelNotices x, n.1 ≠ c) ∧ c ∉ x.unit.withdrawals := by
  obtain ⟨hnodup, honline, -⟩ := hN
  obtain ⟨hq, hr, -, hj, hw⟩ := hx
  have hrec : receivedItems x = receivedItems s := by
    rw [receivedItems_eq, receivedItems_eq, acceptedItems_resting hl, acceptedItems_own hown, hr, hj]
  obtain ⟨hatt, before, after, htx, -⟩ := List.find?_eq_some_iff_append.1 hi
  have hmem : (c, st) ∈ ownChannelNotices s := by
    rw [ownChannelNotices, htx]
    simp [hb]
  refine ⟨?_, fun hc => ((honline hon).2 c (hw ▸ hc)).2 _ hmem rfl⟩
  have hdrop : dropAttempt s.txQueue = dropAttempt before ++ dropAttempt after := by
    rw [htx, dropAttempt, List.filter_append, List.filter_cons]
    simp [hatt, dropAttempt]
  unfold ownChannelNotices at hnodup ⊢
  rw [hrec, hq]
  dsimp only
  rw [hdrop]
  rw [htx] at hnodup
  simp only [List.filterMap_append, List.filterMap_cons, hb, List.append_assoc, List.cons_append, List.map_append,
    List.map_cons] at hnodup ⊢
  have hnot := (List.nodup_middle.1 hnodup).notMem
  intro n hn hnc
  refine hnot ?_
  rw [← hnc]
  simp only [List.mem_append, List.mem_map, List.mem_filterMap] at hn ⊢
  rcases hn with ⟨a, ha, hna⟩ | ⟨a, ha, hna⟩ | h
  · exact .inl ⟨n, ⟨a, (List.mem_filter.1 ha).1, hna⟩, rfl⟩
  · exact .inr (.inl ⟨n, ⟨a, (List.mem_filter.1 ha).1, hna⟩, rfl⟩)
  · exact .inr (.inr ⟨n, h, rfl⟩)

/-- Placing a notice again, with no other notice of its channel about (R63, R87, R94). -/
theorem placeAgain_calm (b : TxBody) (hown : s₀.line.phase.isOwn = true)
    (hr : s₀.station.running = true → s.station.running = true)
    (hn : ∀ c st, bodyServes b = some (c, st) → s.station.online = true → ChannelNoticesLegal s₀ →
      (∀ n ∈ ownChannelNotices s, n.1 ≠ c) ∧ c ∉ s.unit.withdrawals) :
    Calm s₀ s (s.placeAgain b) := by
  unfold State.placeAgain
  split
  · next c w wt =>
    split
    · next h => exact Calm.one (.resend _ c .claiming rfl h.1 h.2 (hn c _ rfl h.2))
    · exact Moves.refl
  · next c =>
    split
    · next h => exact Calm.one (.resend _ c .releasing rfl h.1 h.2 (hn c _ rfl h.2))
    · exact Moves.refl
  · exact Calm.one (.placeLeave hown hr)
  · exact Moves.refl

/-! ### The end of an attempt -/

theorem attemptItem_none_iff (q : List TxItem) : attemptItem q = none ↔ dropAttempt q = q := by
  simp [attemptItem, dropAttempt, List.filter_eq_self]

theorem claimReleased_some {b : TxBody} {c : Chan} (h : s.claimReleased b = some c) :
    ∃ w wt, b = .claim c w wt ∧ (s.chan c).releasePending = true := by
  unfold State.claimReleased at h
  split at h
  · next d w wt =>
    split at h
    · next hp =>
      cases h
      exact ⟨w, wt, rfl, hp⟩
    · cases h
  · cases h

theorem settleUndelivered_calm (l : LineInterface) (i : TxItem) (k : Nat) (hown : s.line.phase.isOwn = true)
    (hl : l.phase.resting) (hi : attemptItem s.txQueue = some i) :
    Calm s₀ s (State.settleUndelivered i.body k { s with line := l }) := by
  unfold State.settleUndelivered
  split
  · next c h =>
    obtain ⟨w, wt, hb, -⟩ := claimReleased_some h
    unfold State.askWithdrawal
    split
    · by_cases hc : (s.chan c).state = .claiming
      · exact withdraw_calm c hc (.settled hown hl hi hb)
      · rw [withdraw_of_not_claiming c (by exact hc)]
        exact Calm.one (.attemptDropped l hown hl)
    · next hj =>
      exact Calm.one (.attemptWithdrawn l i c w wt hown hl hi hb (by simpa using hj))
  · split
    · exact Calm.one (.attemptDropped l hown hl)
    · exact Calm.one (.attemptKept l k hown hl)

/-- A broken attempt: a hold in LEAVING that its SYNC leaves behind ends with a frame start (R44, R85, R87). -/
theorem settleBroken_moves (l : LineInterface) (hown : s.line.phase.isOwn = true) (hl : l.phase.resting) :
    Moves s (FrameKind fun _ => s.station = .leaving ∧ s.timer.hold = true) s
      (State.settleBroken { s with line := l }) := by
  have calm : FrameKind (fun _ => s.station = .leaving ∧ s.timer.hold = true) .calm := .inl rfl
  have dropped : Calm s s { s with line := l, txQueue := dropAttempt s.txQueue } :=
    Calm.one (.attemptDropped l hown hl)
  unfold State.settleBroken
  split
  · next hi =>
    refine Calm.up calm (dropped.trans (Moves.of_eq ?_))
    rw [(attemptItem_none_iff s.txQueue).1 hi]
  · next i hi =>
    split
    · exact Calm.up calm (settleUndelivered_calm l i _ hown hl hi)
    · refine (Calm.up calm dropped).trans ?_
      dsimp only
      split
      · exact holdWithoutSync_moves calm fun hs hh => .inl (.inr ⟨_, rfl, hs, hh⟩)
      · exact Calm.up calm (placeAgain_calm i.body hown (fun h => h) fun c st hb ho hN =>
          noNotice_of_dropped hN ho hown hi hb (SameQueues.refl _) hl)

/-! ### Completion -/

theorem sendShed_enqueue (item : RxItem) : (s.enqueue item).sendShed = s.sendShed.enqueue item := by
  unfold State.sendShed
  split
  · next h =>
    rw [if_pos (by exact h)]
    rfl
  · next h => rw [if_neg (by exact h)]

theorem resendShed_enqueue (item : RxItem) : (s.enqueue item).resendShed = s.resendShed.enqueue item := by
  unfold State.resendShed
  split
  · next h =>
    rw [if_pos (by exact h)]
    exact sendShed_enqueue item
      (s := { s with shed := { s.shed with resend := resendInterval s.settings.shedHold } })
  · next h => rw [if_neg (by exact h)]

theorem endShed_enqueue (item : RxItem) : (s.enqueue item).endShed = s.endShed.enqueue item := by
  unfold State.endShed
  split
  · next h =>
    rw [if_pos (by exact h)]
    rfl
  · next h => rw [if_neg (by exact h)]

theorem stepShed_enqueue (item : RxItem) : (s.enqueue item).stepShed = s.stepShed.enqueue item := by
  unfold State.stepShed
  have h1 : (s.enqueue item).shed = s.shed := rfl
  have h2 : (s.enqueue item).supply = s.supply := rfl
  rw [h1, h2]
  split
  · rfl
  · exact resendShed_enqueue item (s := { s with shed := { s.shed with resend := s.shed.resend - 1 } })
  · exact endShed_enqueue item (s := { s with shed := { s.shed with hold := s.shed.hold - 1 } })

theorem summaryDue_enqueue (item : RxItem) : (s.enqueue item).summaryDue = s.summaryDue.enqueue item := by
  unfold State.summaryDue
  split
  · next h =>
    rw [if_pos (by exact h)]
    rfl
  · next h => rw [if_neg (by exact h)]

/-- A cause of shedding does not look at the receive queue. -/
theorem shedCause_enqueue (a b : Bool) (item : RxItem) :
    (s.enqueue item).shedCause a b = (s.shedCause a b).enqueue item := by
  have send : ∀ x : State, (if b then (x.enqueue item).sendShed else x.enqueue item) =
      (if b then x.sendShed else x).enqueue item := fun x => by
    cases b
    · rfl
    · exact sendShed_enqueue item
  unfold State.shedCause
  have h1 : (s.enqueue item).shed = s.shed := rfl
  have h2 : (s.enqueue item).station = s.station := rfl
  rw [h1, h2]
  split
  · split
    · exact congrArg (State.raise .shedStart) (send s.shedStarted)
    · exact send { s with shed := { s.shed with
        hold := s.settings.shedHold
        resend := if a then resendInterval s.settings.shedHold else s.shed.resend } }
  · rfl

theorem endListening_enqueue (item : RxItem) : (s.enqueue item).endListening = s.endListening.enqueue item := by
  unfold State.endListening
  have h1 : (s.enqueue item).station = s.station := rfl
  have h2 : (s.enqueue item).listenCount = s.listenCount := rfl
  rw [h1, h2]
  split
  · dsimp only
    have h3 : ∀ x : State, (State.raise .joinDone (State.enqueue item x)).supply = (State.raise .joinDone x).supply :=
      fun _ => rfl
    split
    · next h =>
      rw [if_pos (by exact h)]
      exact shedCause_enqueue true true item (s := State.raise .joinDone { s with
        station := .joined, summaryTimer := 0, txQueue := placeSummary s.txQueue })
    · next h =>
      rw [if_neg (by exact h)]
      rfl
  · rfl

theorem frameCounts_enqueue (item : RxItem) : (s.enqueue item).frameCounts = s.frameCounts.enqueue item := by
  unfold State.frameCounts
  have h1 : (s.enqueue item).station = s.station := rfl
  rw [h1]
  split
  · rw [stepShed_enqueue]
    exact summaryDue_enqueue item (s := { s.stepShed with summaryTimer := s.stepShed.summaryTimer + 1 })
  · split
    · exact endListening_enqueue item (s := { s with listenCount := s.listenCount - 1 })
    · rfl

theorem nextFrame_enqueue (f : Nat) (item : RxItem) : (s.enqueue item).nextFrame f = (s.nextFrame f).enqueue item := by
  unfold State.nextFrame State.frameChannels
  split
  · next h =>
    rw [if_pos (by exact h)]
    rfl
  · next h =>
    rw [if_neg (by exact h)]
    rfl

/-- Realignment does not look at the receive queue (R45). -/
theorem realign_enqueue (f : Nat) (item : RxItem) : (s.enqueue item).realign f = (s.realign f).enqueue item := by
  have step : ∀ x : State, State.frameStart { x.enqueue item with
      timer := { x.timer with slice := 0, frame := f, hold := false }
      txQueue := withdrawItems TxBody.isSync x.txQueue } = State.enqueue item (State.frameStart { x with
      timer := { x.timer with slice := 0, frame := f, hold := false }
      txQueue := withdrawItems TxBody.isSync x.txQueue }) := fun x => by
    have h := nextFrame_enqueue f item (s := { x with txQueue := withdrawItems TxBody.isSync x.txQueue })
    exact (congrArg State.frameCounts h).trans (frameCounts_enqueue item)
  have raised : ∀ b, (s.enqueue item).raiseIf b .syncSlip = (s.raiseIf b .syncSlip).enqueue item := fun b => by
    unfold State.raiseIf
    split <;> rfl
  unfold State.realign
  have h1 : (s.enqueue item).timer = s.timer := rfl
  rw [h1]
  split
  · dsimp only
    rw [raised]
    exact step _
  · rfl

/-- The frame number of a SYNC that ends on the line. -/
def completingFrame (s : State) (f : Nat) : Prop :=
  (∃ place, s.line.phase = .ownEcho (.sync f) place) ∨
    ∃ item, item.notice = .sync f ∧
      (s.line.phase = .judged (.accepted item) ∨ s.line.phase = .judged (.overrun item))

theorem frameLegal_of_completing {f : Nat} (h : completingFrame s f) : LinePhase.frameLegal s.line.phase → f < 256 := by
  rcases h with ⟨place, h⟩ | ⟨item, hn, h | h⟩ <;> rw [h] <;> intro hl
  · exact hl
  all_goals
    have : Notice.frameLegal item.notice := hl
    rwa [hn] at this

theorem actsAtCompletion_moves (own : Bool) (n : Notice) (hn : ∀ f, n = .sync f → completingFrame s₀ f) :
    Moves s₀ (FrameKind (completingFrame s₀)) s (s.actsAtCompletion own n) := by
  unfold State.actsAtCompletion
  split
  · next f =>
    exact realign_moves f (frameLegal_of_completing (hn f rfl)) (.inl rfl) (.inr ⟨f, rfl, hn f rfl⟩)
  · split
    · exact Moves.refl
    · exact Calm.up (.inl rfl) (shedCause_calm false false (by simp))
  · exact Moves.refl

theorem actsAtCompletion_enqueue (own : Bool) (n : Notice) (item : RxItem) :
    (s.enqueue item).actsAtCompletion own n = (s.actsAtCompletion own n).enqueue item := by
  unfold State.actsAtCompletion
  split
  · exact realign_enqueue _ item
  · split
    · rfl
    · exact shedCause_enqueue false false item
  · rfl

/-- A notice added to the receive queue and its effect at completion come to the same in either order (R139). -/
theorem inOrder_enqueue (first : TakenFirst) (own : Bool) (n : Notice) (item : RxItem) :
    inOrder first (State.enqueue item) (State.actsAtCompletion own n) s =
      (s.enqueue item).actsAtCompletion own n := by
  cases first
  · rfl
  · exact (actsAtCompletion_enqueue own n item).symm

theorem actsAtCompletion_settings (own : Bool) (n : Notice) : (s.actsAtCompletion own n).settings = s.settings := by
  refine Moves.settings (P := FrameKind (completingFrame { s with line := ⟨.ownEcho n true, 0, 0⟩ })) ?_
    (actsAtCompletion_moves own n fun f hf => .inl ⟨true, by rw [hf]⟩)
  rintro k (rfl | ⟨f, rfl, -⟩) <;> simp

/-- The same of an own notice, sent under the station's number. -/
theorem inOrder_enqueue_own (first : TakenFirst) (n : Notice) :
    inOrder first (fun s => s.enqueue ⟨true, s.settings.stationNumber, n⟩) (State.actsAtCompletion true n) s =
      (s.enqueue ⟨true, s.settings.stationNumber, n⟩).actsAtCompletion true n := by
  cases first
  · rfl
  · rw [actsAtCompletion_enqueue]
    simp only [inOrder, actsAtCompletion_settings]

theorem completeOwn_moves (n : Notice) (place echoed : Bool) (first : TakenFirst) (l : LineInterface)
    (hp : s.line.phase = .ownEcho n place) (hl : l.phase.resting) :
    Moves s (FrameKind (completingFrame s)) s (State.completeOwn n place echoed first { s with line := l }) := by
  have hown : s.line.phase.isOwn = true := by rw [hp]; rfl
  have calm : FrameKind (completingFrame s) .calm := .inl rfl
  have hsync : ∀ f, n = .sync f → completingFrame s f := fun f hf => .inl ⟨place, by rw [hp, hf]⟩
  unfold State.completeOwn
  split
  · next hi =>
    refine Calm.up calm ((Calm.one (.attemptDropped l hown hl)).trans (Moves.of_eq ?_))
    rw [(attemptItem_none_iff s.txQueue).1 hi]
  · next i hi =>
    split
    · generalize hw : State.witnessFails _ _ _ = fails
      have raised : ∀ q : List TxItem, State.raiseIf fails .witnessFail { s with line := l, txQueue := q } =
          { State.raiseIf fails .witnessFail { s with line := l } with txQueue := q } := fun q => by
        unfold State.raiseIf
        split <;> rfl
      dsimp only
      cases place
      · have hx := raised (dropAttempt s.txQueue)
        obtain ⟨q1, q2, q3, q4, q5⟩ := raiseIf_queues fails .witnessFail
          (s := { s with line := l, txQueue := dropAttempt s.txQueue })
        have qs : (State.raiseIf fails .witnessFail { s with
            line := l, txQueue := dropAttempt s.txQueue }).station = s.station := by
          unfold State.raiseIf
          split <;> rfl
        have htx : dropAttempt (State.raiseIf fails .witnessFail { s with line := l }).txQueue =
            dropAttempt s.txQueue := by
          rw [(raiseIf_queues fails .witnessFail (s := { s with line := l })).1]
        rw [htx, ← hx]
        generalize hy : State.raiseIf fails .witnessFail { s with line := l, txQueue := dropAttempt s.txQueue } = x
          at q1 q2 q3 q4 q5 qs
        have start : Moves s (FrameKind (completingFrame s)) s x := by
          rw [← hy]
          exact Calm.up calm ((Calm.one (.attemptDropped l hown hl)).trans (raiseIf_calm _ _))
        have dropped : ∀ c st, bodyServes i.body = some (c, st) → x.overrun.station.online = true →
            ChannelNoticesLegal s → (∀ n ∈ ownChannelNotices x.overrun, n.1 ≠ c) ∧ c ∉ x.overrun.unit.withdrawals :=
          fun c st hb ho hN => by
            obtain ⟨o1, o2, o3, o4, o5⟩ := tableDoubt_queues (s := x.raise .rxOverrun)
            have online : s.station.online = true := qs ▸ tableDoubt_online (s := x.raise .rxOverrun) ho
            have line : x.overrun.line = l := o3.trans q3
            exact noNotice_of_dropped hN online hown hi hb
              ⟨o1.trans q1, o2.trans q2, rfl, o4.trans q4, o5.trans q5⟩ (line ▸ hl)
        simp only [Bool.false_eq_true, if_false]
        cases first
        · refine start.trans (Moves.trans ?_ (actsAtCompletion_moves true n hsync))
          have lost : Calm s x x.overrun := overrun_calm
          have running := ((start.trans (Calm.up calm lost)).running (C := completingFrame s))
          exact Calm.up calm (lost.trans (placeAgain_calm i.body hown running dropped))
        · refine start.trans ((actsAtCompletion_moves true n hsync).trans ?_)
          have acted := (start.trans (actsAtCompletion_moves true n hsync)).trans
            (Calm.up calm (overrun_calm (s := State.actsAtCompletion true n x)))
          refine Calm.up calm (overrun_calm.trans (placeAgain_calm i.body hown acted.running fun c st hb ho hN => ?_))
          have same : noticeServes n = bodyServes i.body := hN.2.2.2.1 i (by simpa [attemptItem] using hi) n (by
            rw [hp]
            rfl)
          have still : State.actsAtCompletion true n x = x := by
            rw [hb] at same
            cases n <;> first | rfl | simp [noticeServes] at same
          rw [still] at ho ⊢
          exact dropped c st hb ho hN
      · simp only [if_true]
        rw [inOrder_enqueue_own]
        refine Moves.trans ?_ (actsAtCompletion_moves true n hsync)
        have sent : Calm s s (State.raiseIf fails .witnessFail { s with
            line := l, txQueue := dropAttempt s.txQueue
            rxQueue := s.rxQueue ++ [⟨true, s.settings.stationNumber, n⟩] }) :=
          (Calm.one (.delivered l n i hp hl hi)).trans (raiseIf_calm _ _)
        refine Calm.up calm (sent.trans (Moves.of_eq ?_))
        unfold State.raiseIf
        split <;> rfl
    · exact Calm.up calm (settleUndelivered_calm l i _ hown hl hi)

theorem completeHeard_moves (v : Verdict) (first : TakenFirst) (l : LineInterface)
    (hp : s.line.phase = .judged v) (hl : l.phase.resting) :
    Moves s (FrameKind (completingFrame s)) s (State.completeHeard v first { s with line := l }) := by
  have calm : FrameKind (completingFrame s) .calm := .inl rfl
  have passed : Calm s s { s with line := l } :=
    Calm.one (.line l (.inr (by simp [hp])) (by rw [hp]; rfl) (.inl hl))
  cases v with
  | accepted item =>
    have hsync : ∀ f, item.notice = .sync f → completingFrame s f := fun f hf => .inr ⟨item, hf, .inl hp⟩
    unfold State.completeHeard
    dsimp only
    rw [inOrder_enqueue]
    exact (Calm.up calm (Calm.one (.received l item hp hl))).trans (actsAtCompletion_moves false item.notice hsync)
  | overrun item =>
    have hsync : ∀ f, item.notice = .sync f → completingFrame s f := fun f hf => .inr ⟨item, hf, .inr hp⟩
    refine (Calm.up calm passed).trans ?_
    cases first
    · exact (Calm.up calm overrun_calm).trans (actsAtCompletion_moves false item.notice hsync)
    · exact (actsAtCompletion_moves false item.notice hsync).trans (Calm.up calm overrun_calm)
  | crcFailure => exact Calm.up calm (passed.trans tableDoubt_calm)
  | malformed => exact Calm.up calm passed

theorem complete_moves (dominant : Nat) (first : TakenFirst) :
    Moves s (FrameKind (completingFrame s)) s (s.complete dominant first) := by
  unfold State.complete
  split
  · split
    · next n place hp => exact completeOwn_moves n place _ first _ hp (.inl rfl)
    · next v hp => exact completeHeard_moves v first _ hp (.inl rfl)
    · exact Moves.refl
  · exact Moves.refl

/-! ### Starts, breaks and the monitor -/

theorem isIdle_iff (l : LineInterface) : l.isIdle = true ↔ l.phase = .idle ∨ l.phase = .skipping := by
  simp [LineInterface.isIdle]

theorem beginAttempt_calm (gap : Nat) (ho : s.offers = true) (hl : s.line.isIdle = true) :
    Calm s₀ s (s.beginAttempt gap) := by
  unfold State.beginAttempt
  split
  · exact Moves.refl
  · next i rest hq =>
    simp only [State.offers, Bool.and_eq_true] at ho
    exact Calm.one (.attempt gap i rest ho.1 ((isIdle_iff s.line).1 hl) hq)

theorem joinStart_calm (elapsed : Nat) : Calm s₀ s (s.joinStart elapsed) := by
  unfold State.joinStart
  split
  · next h => exact beginAttempt_calm 0 h.1 h.2.1
  · exact Moves.refl

theorem startAttempt_calm (kind : StartKind) (elapsed : Nat) : Calm s₀ s (s.startAttempt kind elapsed) := by
  unfold State.startAttempt
  split
  · split
    · next h => exact beginAttempt_calm _ h.1 h.2.1
    · exact Moves.refl
  · exact joinStart_calm elapsed

theorem fallingEdge_calm (elapsed : Nat) : Calm s₀ s (s.fallingEdge elapsed) := by
  unfold State.fallingEdge
  split
  · next h =>
    obtain ⟨hr, hi⟩ := h
    have notOwn : s.line.phase.isOwn = false := by
      rcases (isIdle_iff s.line).1 hi with h | h <;> rw [h] <;> rfl
    split
    · split
      · next ho => exact beginAttempt_calm 0 ho hi
      · exact Calm.one (.line _ (.inl hr) notOwn (.inl (.inr (.inr rfl))))
    · exact Calm.one (.lineTime 0 0 hr)
  · exact Moves.refl

theorem drivenCell_own {cell : Nat} {b : Bool} (h : s.drivenCell cell = some b) : s.line.phase.isOwn = true := by
  unfold State.drivenCell at h
  split at h
  · next hp => rw [hp]; rfl
  · cases h

theorem loseArbitration_calm (cell : Nat) : Calm s₀ s (s.loseArbitration cell) := by
  unfold State.loseArbitration
  split
  · next h =>
    have hown := drivenCell_own h.2.2
    have hl : LinePhase.resting .decoding := .inr (.inr rfl)
    dsimp only
    split
    · next i hi => exact settleUndelivered_calm _ i _ hown hl hi
    · next hi =>
      refine (Calm.one (.attemptDropped ⟨.decoding, 0, Config.sampleQuarters⟩ hown hl)).trans (Moves.of_eq ?_)
      rw [(attemptItem_none_iff s.txQueue).1 hi]
  · exact Moves.refl

theorem afterDriverFault_resting (r : Option Nat) (l : LineInterface) : (l.afterDriverFault r).phase.resting := by
  cases r
  · exact .inl rfl
  · exact .inr (.inr rfl)

theorem driverFails_moves (found : Mismatch) :
    Moves s (FrameKind fun _ => s.station = .leaving ∧ s.timer.hold = true) s (s.driverFails found) := by
  unfold State.driverFails
  split
  · next h => exact settleBroken_moves _ (drivenCell_own h.1) (afterDriverFault_resting _ _)
  · exact Moves.refl

theorem breakNotice_moves (kind : BreakKind) :
    Moves s (FrameKind fun _ => s.station = .leaving ∧ s.timer.hold = true) s (s.breakNotice kind) := by
  have hl : (LineInterface.afterBreak kind).phase.resting := by cases kind <;> exact .inl rfl
  unfold State.breakNotice
  split
  · next hb =>
    dsimp only
    split
    · next hown => exact settleBroken_moves _ hown hl
    · next hown =>
      refine Calm.up (.inl rfl) (Calm.one (.line _ (.inr fun h => ?_) (by simpa using hown) (.inl hl)))
      rw [h] at hb
      exact absurd hb (by simp [LinePhase.breaks])
  · exact Moves.refl

/-- A halt of a cause, and else calm moves. -/
def HaltKind (cause : HaltCause) (k : MoveKind) : Prop := k = .calm ∨ k = .halt cause

theorem conflict_shape (cell : Nat) : StepShape s₀ (HaltKind .stationConflict) s (s.conflict cell) := by
  unfold State.conflict
  split
  · exact haltReport_shape _ (by simp) (.inl rfl) (.inr rfl)
  · exact .of_moves Moves.refl

theorem judgeHeard_shape (heard : Heard) : StepShape s₀ (HaltKind .stationConflict) s (s.judgeHeard heard) := by
  unfold State.judgeHeard
  split
  · next h =>
    obtain ⟨hr, hp⟩ := h
    have notOwn : s.line.phase.isOwn = false := by rw [hp]; rfl
    have judged : ∀ p : LinePhase, (p.resting ∨ p = .judged .crcFailure ∨ p = .judged .malformed ∨
        ∃ item, p = .judged (.overrun item) ∧ Notice.frameLegal item.notice) →
        StepShape s₀ (HaltKind .stationConflict) s (s.judge heard.run p) := fun p h =>
      .of_moves (Calm.up (.inl rfl) (Calm.one (.line ⟨p, _, _⟩ (.inl hr) notOwn h)))
    split
    · split
      · exact judged .idle (.inl (.inl rfl))
      · exact .of_moves Moves.refl
    · exact judged .skipping (.inl (.inr (.inl rfl)))
    · exact judged _ (.inr (.inl rfl))
    · exact judged _ (.inr (.inr (.inl rfl)))
    · next n notice hd =>
      obtain ⟨h1, h32, hw, hf⟩ := decodeNotice_good hd
      split
      · exact haltReport_shape _ (by simp) (.inl rfl) (.inr rfl)
      · next hn =>
        split
        · next hroom =>
          exact .of_moves (Calm.up (.inl rfl) (Calm.one (.accept ⟨.judged (.accepted ⟨false, n, notice⟩), _, _⟩
            ⟨false, n, notice⟩ hr hp rfl (of_decide_eq_true hroom) rfl
            ⟨h1, h32, hn⟩ hw hf)))
        · exact judged _ (.inr (.inr (.inr ⟨_, rfl, hf⟩)))
  · exact .of_moves Moves.refl

theorem ownEchoBegins_calm : Calm s₀ s s.ownEchoBegins := by
  unfold State.ownEchoBegins
  split
  · next n hp => exact Calm.one (.echoCell n hp)
  · exact Moves.refl

theorem heldDominant_shape (held : Held) : StepShape s₀ (HaltKind .lineFault) s (s.heldDominant held) := by
  rcases s.heldDominant_cases held with ⟨_, _, h⟩ | ⟨hr, _, h⟩ | ⟨_, h⟩ <;> rw [h]
  · exact haltReport_shape _ (by simp) (.inl rfl) (.inr rfl)
  · exact .of_moves (Calm.up (.inl rfl) (Calm.one (.lineTime _ _ hr)))
  · exact .of_moves Moves.refl

end Sys2Proof.Machine
end

section
/-! PROOFS. Every row as a run of moves, and what every move keeps is kept by every step. -/

namespace Sys2Proof.Machine

open Sys2Proof.Safety

variable {s₀ s t u : State} {P Q : MoveKind → Prop}

/-! ### The resets and the bytes of a transaction -/

/-- Moves that may clear event flags, and calm ones. -/
def ClearKind (k : MoveKind) : Prop := k = .calm ∨ k = .clears

theorem softReset_moves : Moves s₀ ClearKind s s.softReset :=
  Moves.one (.reset rfl (.inl rfl)) (.inr rfl)

theorem held_reset_moves (r : ResetPins) : Moves s₀ ClearKind s { s.holdReset with resets := r } :=
  Moves.one (.reset rfl (.inr rfl)) (.inr rfl)

theorem leaveReset_calm (r : ResetPins) : Calm s₀ s (State.leaveReset { s with resets := r }) := by
  have pins : Calm s₀ s { s with resets := r } := Calm.one (.port rfl (.inl ⟨rfl, fun _ h => h⟩))
  unfold State.leaveReset
  split
  · exact pins
  · exact pins.trans startSampler_calm

theorem shiftFlagByte_moves : Moves s₀ ClearKind s s.shiftFlagByte := by
  have marker : Moves s₀ ClearKind s s.showMarker := Calm.up (.inl rfl) showMarker_calm
  unfold State.shiftFlagByte
  dsimp only
  split
  · split
    · exact (marker.trans (flagByteEnds_moves (.inr rfl))).trans (Calm.up (.inl rfl) (calm_of_port rfl))
    · exact Moves.refl
  · exact Moves.refl

theorem shiftOutcomeByte_calm : Calm s₀ s s.shiftOutcomeByte := by
  unfold State.shiftOutcomeByte
  dsimp only
  split
  · exact (showMarker_calm.trans outcomeByteEnds_calm).trans (calm_of_port rfl)
  · exact Moves.refl

theorem chooseByte_calm : Calm s₀ s s.chooseByte := by
  unfold State.chooseByte
  split
  · exact calm_of_port rfl
  · exact showMarker_calm.trans (calm_of_port rfl)
  · exact calm_of_port rfl
  · exact calm_of_port rfl

theorem responseByteEnds_moves (k : Nat) : Moves s₀ ClearKind s (s.responseByteEnds k) := by
  have ends : ∀ (x : State) (b : Prop) [Decidable b], Moves s₀ ClearKind s x →
      Moves s₀ ClearKind s (if b then { x with host := { x.host with phase := .trailing } } else x) := fun x b _ hx => by
    split
    · exact hx.trans (Calm.up (.inl rfl) (calm_of_port rfl))
    · exact hx
  unfold State.responseByteEnds
  split
  · exact Moves.refl
  · refine ends _ _ ?_
    split
    · split
      · exact flagByteEnds_moves (.inr rfl)
      · exact Moves.refl
    · split
      · exact Calm.up (.inl rfl) outcomeByteEnds_calm
      · exact Moves.refl
    · exact Moves.refl

theorem byteOutEnds_moves : Moves s₀ ClearKind s s.byteOutEnds := by
  have shifted : Moves s₀ ClearKind s { s with serial := { s.serial with sdi := s.serial.sdi.drop 8, out := none } } :=
    Calm.up (.inl rfl) (calm_of_port rfl)
  unfold State.byteOutEnds
  dsimp only
  split
  · exact shifted.trans (responseByteEnds_moves _)
  · exact shifted

/-! ### Every row -/

/-- The rows that may clear event flags: the end of a flag byte and the resets (R178). -/
def Clearing (i : Instr) : Prop := i = .flagByteShifted ∨ i = .softReset ∨ i = .pinReset ∨ i = .powerOnReset

/-- The kinds of moves a row may make. -/
inductive RowKind (s : State) : Instr → (MoveKind → Prop) → Prop
  | calm (i : Instr) : RowKind s i (· = .calm)
  | clears {i : Instr} (h : Clearing i) : RowKind s i ClearKind
  | evaluated (p : JobPoint) : RowKind s (.evaluate p) FinishKind
  | swept (p : JobPoint) : RowKind s (.sweep p) FinishKind
  | slice (sns : Nat) : RowKind s (.sliceBoundary sns) (fun k => k = .calm ∨ k = .slice)
  | hold (sns : Nat) : RowKind s (.frameExpiry sns) StationKind
  | frame (sns : Nat) : RowKind s (.frameExpiry sns) (FrameKind fun _ => True)
  | realigned (dominant : Nat) (first : TakenFirst) :
      RowKind s (.noticeComplete dominant first) (FrameKind (completingFrame s))
  | leftHold {i : Instr} (h : (∃ k, i = .noticeBroken k) ∨ ∃ found, i = .driverFault found) :
      RowKind s i (FrameKind fun _ => s.station = .leaving ∧ s.timer.hold = true)
  | conflict {i : Instr} (h : (∃ cell, i = .stationConflict cell) ∨ ∃ heard, i = .heardNoticeJudged heard) :
      RowKind s i (HaltKind .stationConflict)
  | lineFault (held : Held) : RowKind s (.lineFault held) (HaltKind .lineFault)

/-- A job at a point is what its grant, its end, or both do. -/
theorem atPoint_shape {p : JobPoint} {grant finish : State → State} (hg : Moves s₀ P s (grant s))
    (hf : StepShape s₀ P s (finish s)) (hw : StepShape s₀ P (grant s) (finish (grant s))) :
    StepShape s₀ P s (atPoint p grant finish s) := by
  cases p with
  | grant => exact .of_moves hg
  | finish => exact hf
  | whole =>
    unfold atPoint
    dsimp only
    split
    · exact .after hg hw
    · exact .of_moves Moves.refl

/-- A PLACEMENT job is granted for a PLACING channel (R25). -/
theorem grantPlacement_serves (h : PlacementServes s) : PlacementServes s.grantPlacement := by
  unfold State.grantPlacement
  split
  · split
    · next c hc =>
      intro d hd
      simp only [State.startJob, Option.some.injEq, Job.placement.injEq] at hd
      subst hd
      have := List.find?_some hc
      simpa [State.chan] using this
    · exact h
  · exact h

theorem exec_clearing {i : Instr} (hc : Clearing i) (h : exec i s = .next t) : Moves s₀ ClearKind s t := by
  rcases hc with rfl | rfl | rfl | rfl <;> cases h
  · exact shiftFlagByte_moves
  · split
    · exact softReset_moves
    · exact Moves.refl
  · exact held_reset_moves _
  · exact held_reset_moves _

/-- Each row is a run of moves of its kinds, and then it may be a command taken at the port. -/
theorem exec_shape {i : Instr} (h : exec i s = .next t) : ∃ P, RowKind s i P ∧ StepShape s P s t := by
  have quiet : ∀ {i : Instr} {x : State}, (.next x : Host.Outcome State Fault Refusal) = .next t → StepShape s (· = .calm) s x →
      ∃ P, RowKind s i P ∧ StepShape s P s t := fun hx hs => by
    cases hx
    exact ⟨_, .calm _, hs⟩
  have unit : ∀ {i : Instr} {x : State}, (.next (if s.unitFree then x else s) : Host.Outcome State Fault Refusal) = .next t →
      Calm s s x → ∃ P, RowKind s i P ∧ StepShape s P s t := fun hx hs => by
    refine quiet hx (.of_moves ?_)
    split
    · exact hs
    · exact Moves.refl
  have clearing : Clearing i → ∃ P, RowKind s i P ∧ StepShape s P s t := fun hc =>
    ⟨_, .clears hc, .of_moves (exec_clearing hc h)⟩
  cases i with
  | softReset => exact clearing (.inr (.inl rfl))
  | unknownCommand code =>
    refine quiet h (.of_moves ?_)
    split
    · exact answerWith_calm _
    · exact Moves.refl
  | transactionOpen => exact quiet h (.of_moves openTransaction_calm)
  | transactionClose => exact quiet h (.of_moves closeTransaction_calm)
  | flagByteShifted => exact clearing (.inl rfl)
  | outcomeByteShifted => exact quiet h (.of_moves shiftOutcomeByte_calm)
  | hostJob p => exact quiet h (atPoint_shape grantHost_calm finishHost_shape finishHost_shape)
  | evaluate p =>
    cases h
    exact ⟨_, .evaluated p, atPoint_shape (grantEvaluate_calm.up (.inl rfl)) finishEvaluate_shape finishEvaluate_shape⟩
  | sweep p =>
    cases h
    exact ⟨_, .swept p, atPoint_shape (grantSweep_calm.up (.inl rfl)) (.of_moves finishSweep_moves)
      (.of_moves finishSweep_moves)⟩
  | peerLoss n => exact quiet h (.of_moves (losePeer_moves n))
  | placement p =>
    exact quiet h (atPoint_shape grantPlacement_calm (.of_moves (finishPlacement_calm id))
      (.of_moves (finishPlacement_calm grantPlacement_serves)))
  | withdrawal c => exact unit h (waitingWithdrawal_calm c)
  | leaveDeferredChannelEffects =>
    refine quiet h (.of_moves ?_)
    split
    · next hf => exact waitingLeave_calm (by simpa [State.unitFree] using hf)
    · exact Moves.refl
  | resyncRefill => exact unit h waitingRefill_calm
  | sliceBoundary sns =>
    cases h
    exact ⟨_, .slice sns, .of_moves (endSlice_moves sns)⟩
  | frameExpiry sns =>
    cases h
    rcases expireFrame_moves (s₀ := s) (s := s) sns with hm | hm
    · exact ⟨_, .hold sns, .of_moves hm⟩
    · exact ⟨_, .frame sns, .of_moves hm⟩
  | holdTick sns => exact quiet h (.of_moves (tickHold_calm sns))
  | freeRunningSamplerTick sns => exact quiet h (.of_moves (tickSampler_calm sns))
  | summaryTimerExpiry => exact quiet h (.of_moves summaryDue_calm)
  | listenEnd => exact quiet h (.of_moves endListening_calm)
  | shedHoldEnd => exact quiet h (.of_moves endShed_calm)
  | shedResend => exact quiet h (.of_moves resendShed_calm)
  | attemptStart kind elapsed => exact quiet h (.of_moves (startAttempt_calm kind elapsed))
  | lostArbitration cell => exact quiet h (.of_moves (loseArbitration_calm cell))
  | driverFault found =>
    cases h
    exact ⟨_, .leftHold (.inr ⟨found, rfl⟩), .of_moves (driverFails_moves found)⟩
  | stationConflict cell =>
    cases h
    exact ⟨_, .conflict (.inl ⟨cell, rfl⟩), conflict_shape cell⟩
  | heardNoticeJudged heard =>
    cases h
    exact ⟨_, .conflict (.inr ⟨heard, rfl⟩), judgeHeard_shape heard⟩
  | noticeComplete dominant first =>
    cases h
    exact ⟨_, .realigned dominant first, .of_moves (complete_moves dominant first)⟩
  | noticeBroken kind =>
    cases h
    exact ⟨_, .leftHold (.inl ⟨kind, rfl⟩), .of_moves (breakNotice_moves kind)⟩
  | lineFault held =>
    cases h
    exact ⟨_, .lineFault held, heldDominant_shape held⟩
  | powerOnReset => exact clearing (.inr (.inr (.inr rfl)))
  | pinReset => exact clearing (.inr (.inr (.inl rfl)))
  | startEdge elapsed => exact quiet h (.of_moves (fallingEdge_calm elapsed))
  | ownEchoCell => exact quiet h (.of_moves ownEchoBegins_calm)
  | pinResetEnd =>
    refine quiet h (.of_moves ?_)
    split
    · exact leaveReset_calm _
    · exact Moves.refl
  | powerOnResetEnd =>
    refine quiet h (.of_moves ?_)
    split
    · exact leaveReset_calm _
    · exact Moves.refl
  | _ => exact quiet h (receive_shape _)

/-! ### What every move keeps -/

theorem StepShape.keeps {inv : State → Prop} (hm : ∀ k s t, Move s₀ k s t → inv s → inv t)
    (h : StepShape s₀ P s t) (hi : inv s) : inv t := by
  obtain ⟨x, hx, ht⟩ := h
  have kept := hx.keeps (fun _ _ _ _ m => hm _ _ _ m) hi
  rcases ht with rfl | ⟨cmd, rfl⟩
  · exact kept
  · exact (take_moves (s₀ := s₀) cmd).keeps (fun _ _ _ _ m => hm _ _ _ m) kept

/-- A condition that every row keeps, and with it the calm moves of the port and the taking of a command from the queue,
is kept by every step. -/
theorem kept_of_exec {inv : State → Prop} (he : ∀ i s t, inv s → exec i s = .next t → inv t)
    (hm : ∀ s₀ k s t, ClearKind k → Move s₀ k s t → inv s₀ → inv s → inv t)
    (hp : ∀ s q, inv s → inv { s with pending := q }) : Kept inv := by
  intro s t hi h
  have moved : ∀ x, Moves s ClearKind s x → inv x := fun x hx =>
    hx.keeps (fun k y z hk m hy => hm s k y z hk m hi hy) hi
  unfold step at h
  split at h
  · unfold State.clock at h
    split at h
    · split at h
      · split at h
        · cases h
          exact hi
        · unfold State.byteIn at h
          dsimp only at h
          split at h
          · exact he _ _ _ (moved _ (Calm.up (.inl rfl) (calm_of_port rfl))) h
          · cases h
            exact moved _ (Calm.up (.inl rfl) (calm_of_port rfl))
      · cases h
        refine moved _ ?_
        split
        · exact Calm.up (.inl rfl) chooseByte_calm
        · exact byteOutEnds_moves
    · cases h
      exact hi
  · exact he _ _ _ (hp s _ hi) h

/-- A condition that every move keeps is kept by every step. -/
theorem kept_of_moves {inv : State → Prop} (hm : ∀ s₀ k s t, Move s₀ k s t → inv s₀ → inv s → inv t)
    (hp : ∀ s q, inv s → inv { s with pending := q }) : Kept inv := by
  refine kept_of_exec (fun i s t hi h => ?_) (fun s₀ k s t _ m h₀ hi => hm s₀ k s t m h₀ hi) hp
  obtain ⟨P, -, hs⟩ := exec_shape h
  exact hs.keeps (fun k x y m hx => hm s k x y m hi hx) hi

end Sys2Proof.Machine
end

section
/-! PROOFS. The helper states of the moves field by field, and the operations on the transmit queue. -/

namespace Sys2Proof.Machine

open Sys2Proof.Safety

variable {s₀ s t : State}

/-! ### Station states -/

theorem StationState.online_iff {st : StationState} : st.online = true ↔ st = .joined ∨ st = .desync := by
  cases st <;> simp [StationState.online]

theorem StationState.running_of_online {st : StationState} (h : st.online = true) : st.running = true := by
  rcases online_iff.1 h with rfl | rfl <;> rfl

theorem StationState.sends_of_online {st : StationState} (h : st.online = true) : st.sends = true := by
  rcases online_iff.1 h with rfl | rfl <;> rfl

theorem StationState.running_of_sends {st : StationState} (h : st.sends = true) : st.running = true := by
  cases st <;> first | rfl | cases h

theorem StationState.not_online_of_not_sends {st : StationState} (h : st.sends = false) : st.online = false := by
  cases st <;> first | rfl | cases h

/-! ### Frame starts -/

theorem nextFrame_eq (f : Nat) : s.nextFrame f = { s with
    timer := ⟨s.timer.running, 0, f, false, min Config.silenceCap (s.timer.sweepPending + 1)⟩
    channels := (s.nextFrame f).channels, driven := (s.nextFrame f).driven } := by
  unfold State.nextFrame State.frameChannels
  split <;> rfl

theorem nextFrame_chan (f : Nat) (c : Chan) :
    (s.nextFrame f).chan c = if s.station.online then (s.chan c).makeLive else s.chan c := by
  unfold State.nextFrame State.frameChannels
  dsimp only
  split
  · rw [State.redrive_chan, State.modChans_chan]
    rfl
  · rfl

theorem nextFrame_driven (f : Nat) (c : Chan) :
    (s.nextFrame f).driven.get c = ((s.nextFrame f).chan c).drives 0 := by
  unfold State.nextFrame State.frameChannels
  split <;> exact State.redrive_driven _ c

/-! ### A shed that starts -/

theorem shedStarted_eq : s.shedStarted = { s with
    shed := ⟨.shedding, s.settings.shedHold,
      if s.supply.state = SupplyState.low then resendInterval s.settings.shedHold else 0⟩
    channels := s.shedStarted.channels, driven := s.shedStarted.driven } := rfl

theorem shedStarted_chan (c : Chan) :
    s.shedStarted.chan c = if s.settings.sheddable.get c then (s.chan c).suspend else s.chan c := by
  unfold State.shedStarted
  rw [State.trimDrive_chan, State.modChans_chan]
  rfl

theorem shedStarted_driven (c : Chan) :
    s.shedStarted.driven.get c = (s.driven.get c && (s.shedStarted.chan c).drives s.timer.slice) := by
  unfold State.shedStarted
  rw [State.trimDrive_driven]
  rfl

/-! ### A leave -/

theorem leaveStarted_eq : s.leaveStarted = { s with
    shed := .idle
    station := .leaving
    txQueue := placeLeave (withdrawItems TxBody.endsAtLeave s.txQueue)
    channels := s.leaveStarted.channels
    driven := Vector.replicate 8 false
    unit := { s.unit with leaveWaiting := true, refillWaiting := false } } := rfl

/-! ### Grants and releases -/

theorem sendRelease_eq (c : Chan) : s.sendRelease c =
    { s with txQueue := if s.station.online then placeTail (.release c) s.txQueue else s.txQueue } := by
  unfold State.sendRelease
  split <;> rfl

theorem givenBack_eq (c : Chan) (again : Bool) (hs : s.station.online = true) : s.givenBack c again = { s with
    book := s.book.restateKey s.settings.stationNumber c .releasing
    channels := s.channels.set c { s.chan c with state := .releasing, live := false, reRequest := again }
    driven := (s.givenBack c again).driven
    txQueue := placeTail (.release c) s.txQueue } := by
  unfold State.givenBack
  rw [sendRelease_eq, if_pos (by exact hs)]
  rfl

theorem givenBack_driven (c d : Chan) (again : Bool) : (s.givenBack c again).driven.get d =
    (s.driven.get d && ((s.givenBack c again).chan d).drives s.timer.slice) := by
  have chan : (s.givenBack c again).chan d = (State.trimDrive (State.modChan c
      (fun ch => { ch with state := .releasing, live := false, reRequest := again })
      { s with book := s.book.restateKey s.settings.stationNumber c .releasing })).chan d := by
    unfold State.givenBack
    rw [sendRelease_eq]
    rfl
  rw [chan]
  unfold State.givenBack
  rw [sendRelease_eq]
  dsimp only
  rw [State.trimDrive_driven]
  rfl

theorem givenBack_chan (c d : Chan) (again : Bool) (hs : s.station.online = true) : (s.givenBack c again).chan d =
    if d = c then { s.chan c with state := .releasing, live := false, reRequest := again } else s.chan d := by
  rw [givenBack_eq c again hs]
  exact get_set _ c d _

theorem ownGranted_chan (c d : Chan) :
    (s.ownGranted c).chan d = if d = c then { s.chan c with state := .held } else s.chan d := by
  unfold State.ownGranted
  rw [State.modChan_chan]
  rfl

theorem ownGrantedReleasing_eq (c : Chan) : s.ownGrantedReleasing c = { s with
    unit := { s.unit with job := none }
    book := (s.book.restateKey s.settings.stationNumber c .held).restateKey s.settings.stationNumber c .releasing
    grants := s.grants ++ [c]
    channels := s.channels.set c { s.chan c with state := .releasing, releasePending := false }
    txQueue := if s.station.online then placeTail (.release c) s.txQueue else s.txQueue } := by
  unfold State.ownGrantedReleasing
  rw [sendRelease_eq]
  rfl

theorem ownGrantedReleasing_chan (c d : Chan) : (s.ownGrantedReleasing c).chan d =
    if d = c then { s.chan c with state := .releasing, releasePending := false } else s.chan d := by
  rw [ownGrantedReleasing_eq]
  exact get_set _ c d _

theorem ownFreed_chan (c d : Chan) (g : List Chan) (f : Channel → Channel) :
    (s.ownFreed c g f).chan d = if d = c then f (s.chan c) else s.chan d := by
  unfold State.ownFreed
  rw [State.modChan_chan]
  rfl

theorem acceptRequest_chan (c d : Chan) (mode : ReqMode) (start len : Nat) :
    (s.acceptRequest c mode start len).chan d = if d = c then { s.chan c with
      state := .placing, mode := mode, reqStart := start, reqLen := len, attempts := 0
      releasePending := false, reRequest := false
      outcome := .none, outcomeWindow := none, fresh := false } else s.chan d := by
  unfold State.acceptRequest
  rw [State.modChan_chan]

/-! ### The transmit queue: what is in it after an operation -/

theorem mem_placeTail {b : TxBody} {l : List TxItem} {i : TxItem} (h : i ∈ placeTail b l) : i ∈ l ∨ i = .new b := by
  simpa [placeTail] using h

theorem mem_placeSync {f : Nat} {l : List TxItem} {i : TxItem} (h : i ∈ placeSync f l) :
    i ∈ l ∨ i = .new (.sync f) := by
  unfold placeSync at h
  split at h
  · exact .inl h
  · exact (List.mem_cons.1 h).symm

theorem mem_placeShed {l : List TxItem} {i : TxItem} (h : i ∈ placeShed l) : i ∈ l ∨ i = .new .shed := by
  unfold placeShed at h
  split at h
  · exact .inl h
  · split at h
    · split at h <;> simp only [List.mem_cons] at h ⊢ <;> tauto
    · simpa using h

theorem mem_placeSummary {l : List TxItem} {i : TxItem} (h : i ∈ placeSummary l) : i ∈ l ∨ i = .new .summary := by
  unfold placeSummary at h
  split at h
  · exact .inl h
  · exact mem_placeTail h

theorem mem_placeLeave {l : List TxItem} {i : TxItem} (h : i ∈ placeLeave l) : i ∈ l ∨ i = .new .leave := by
  unfold placeLeave at h
  split at h
  · exact .inl h
  · exact mem_placeTail h

theorem mem_keepAttempt {n : Nat} {l : List TxItem} {i : TxItem} (h : i ∈ keepAttempt n l) :
    ∃ j ∈ l, i.body = j.body := by
  obtain ⟨j, hj, rfl⟩ := List.mem_map.1 h
  exact ⟨j, hj, by split <;> rfl⟩

end Sys2Proof.Machine
end

section
/-! PROOFS. The Frame Timer, Shed Control, the settings, the Station Controller and a quiet station (R38, R66, R133, R135,
R147, R153). -/

namespace Sys2Proof.Machine

open Sys2Proof.Safety

variable {s₀ s t : State}

/-! ### The Frame Timer -/

theorem frameLegal_resting {p : LinePhase} (h : p.resting) : LinePhase.frameLegal p := by
  rcases h with rfl | rfl | rfl <;> trivial

theorem frameLegal_noticeOf {b : TxBody} (h : TxBody.frameLegal b) : Notice.frameLegal (s.noticeOf b) := by
  cases b with
  | sync f => exact h
  | _ => trivial

/-- The bodies of the queue `r` are those of `q`, or new ones with a frame number in range. -/
def FromQueue (q r : List TxItem) : Prop := ∀ i ∈ r, (∃ j ∈ q, i.body = j.body) ∨ TxBody.frameLegal i.body

theorem FromQueue.of_mem {q r : List TxItem} (h : ∀ i ∈ r, i ∈ q ∨ ∃ b, i = .new b ∧ TxBody.frameLegal b) :
    FromQueue q r := fun i hi => (h i hi).elim (fun hq => .inl ⟨i, hq, rfl⟩) fun ⟨_, hb, hf⟩ => .inr (hb ▸ hf)

theorem fromQueue_sublist {q r : List TxItem} (h : r.Sublist q) : FromQueue q r :=
  .of_mem fun _ hi => .inl (h.subset hi)

theorem fromQueue_placeTail {b : TxBody} {q : List TxItem} (hb : TxBody.frameLegal b) :
    FromQueue q (placeTail b q) := .of_mem fun _ hi => (mem_placeTail hi).imp_right fun h => ⟨b, h, hb⟩

theorem fromQueue_placeSummary {q : List TxItem} : FromQueue q (placeSummary q) :=
  .of_mem fun _ hi => (mem_placeSummary hi).imp_right fun h => ⟨_, h, by trivial⟩

theorem fromQueue_placeLeave {q : List TxItem} : FromQueue q (placeLeave q) :=
  .of_mem fun _ hi => (mem_placeLeave hi).imp_right fun h => ⟨_, h, by trivial⟩

/-- The line, the transmit queue and the station state change, the Frame Timer does not. -/
theorem timerLegal_of (hi : TimerLegal s) (htimer : t.timer = s.timer)
    (hrun : t.station.running = s.station.running) (hlisten : t.station = .listening → s.station = .listening)
    (hq : FromQueue s.txQueue t.txQueue)
    (hl : LinePhase.frameLegal s.line.phase → LinePhase.frameLegal t.line.phase) : TimerLegal t := by
  obtain ⟨irun, ioff, islice, iframe, isweep, ihold, itx, iline⟩ := hi
  refine ⟨by rw [htimer, hrun, irun], fun h => by rw [htimer, ioff (hrun ▸ h)], by rw [htimer]; exact islice,
    by rw [htimer]; exact iframe, by rw [htimer]; exact isweep, fun h => ?_, fun i hi => ?_, hl iline⟩
  · rw [htimer] at h ⊢
    exact ⟨(ihold h).1, fun hs => (ihold h).2 (hlisten hs)⟩
  · rcases hq i hi with ⟨j, hj, h⟩ | h
    · rw [h]
      exact itx j hj
    · exact h

theorem timerLegal_off (htimer : t.timer = FrameTimer.stopped) (hrun : t.station.running = false)
    (hq : t.txQueue = []) (hl : t.line = LineInterface.quiet) : TimerLegal t := by
  simp [TimerLegal, htimer, hrun, hq, hl, FrameTimer.stopped, LineInterface.quiet, LinePhase.frameLegal]

theorem withdrawalOf_fromQueue {c : Chan} {l : LineInterface} {q : List TxItem} {ws : List Chan}
    (h : WithdrawalOf s c l q ws) : FromQueue s.txQueue q := by
  cases h <;> first | exact fromQueue_sublist (List.Sublist.refl _) | exact fromQueue_sublist List.filter_sublist

theorem withdrawalOf_frameLegal {c : Chan} {l : LineInterface} {q : List TxItem} {ws : List Chan}
    (h : WithdrawalOf s c l q ws) (hs : LinePhase.frameLegal s.line.phase) : LinePhase.frameLegal l.phase := by
  cases h with
  | settled _ hl => exact frameLegal_resting hl
  | _ => exact hs

theorem Move.timerLegal {k : MoveKind} (m : Move s₀ k s t) (h₀ : TimerLegal s₀) (hi : TimerLegal s) :
    TimerLegal t := by
  have same : FromQueue s.txQueue s.txQueue := fromQueue_sublist (List.Sublist.refl _)
  have dropped : FromQueue s.txQueue (dropAttempt s.txQueue) := fromQueue_sublist List.filter_sublist
  have kept := hi
  obtain ⟨hrun, hoff, hslice, hframe, hsweep, hhold, htx, hline⟩ := hi
  have running : s.timer.running = true → s.station.running = true := fun h => hrun ▸ h
  cases m with
  | port ht => rw [ht]; exact kept
  | reset ht => rw [ht]; exact timerLegal_off rfl rfl rfl rfl
  | leaveDone ht => rw [ht]; exact timerLegal_off rfl rfl rfl rfl
  | halt _ _ _ ht => rw [ht]; exact timerLegal_off rfl rfl rfl rfl
  | join =>
    refine ⟨rfl, fun h => (nomatch h), Nat.zero_le _, Nat.zero_le _, Nat.zero_le _, fun h => ?_, htx, trivial⟩
    cases h
  | unjoin hs => exact timerLegal_of kept rfl (by rw [hs]; rfl) (by simp) same id
  | desync hs => exact timerLegal_of kept rfl (by rw [StationState.running_of_online hs]; rfl) (by simp) same id
  | rejoin hs => exact timerLegal_of kept rfl (by rw [hs]; rfl) (by simp) same id
  | leaveStarted hs =>
    refine timerLegal_of kept rfl (by rw [StationState.running_of_online hs]; rfl) (fun h => nomatch h)
      (.of_mem fun i hi => ?_) id
    exact (mem_placeLeave hi).imp (fun h => List.mem_of_mem_filter h) fun h => ⟨_, h, by trivial⟩
  | withdraw c l q ws hc hw =>
    exact timerLegal_of kept rfl rfl id (withdrawalOf_fromQueue hw) (withdrawalOf_frameLegal hw)
  | slice hr hs hh =>
    refine ⟨hrun, fun h => absurd (running hr) (by simpa using h), hs, hframe, hsweep, fun h => ?_, htx, hline⟩
    exact absurd h (by simpa using hh)
  | hold hs h63 =>
    have hne : s.station ≠ .listening := by rcases StationState.online_iff.1 hs with h | h <;> simp [h]
    exact ⟨hrun, fun h => absurd (StationState.running_of_online hs) (by simpa using h), hslice, hframe, hsweep,
      fun _ => ⟨Nat.le_antisymm hslice h63, hne⟩, htx, hline⟩
  | frame f hr hf hk =>
    have hr : s.station.running = true := hr.elim running id
    have hlt : f < 256 := hf h₀.2.2.2.2.2.2.2
    rw [nextFrame_eq]
    exact ⟨hrun, fun h => absurd hr (by simpa using h), Nat.zero_le _, Nat.le_of_lt_succ hlt, Nat.min_le_left _ _,
      fun h => (nomatch h), htx, hline⟩
  | listened hs => exact timerLegal_of kept rfl (by rw [hs]; rfl) (by simp) fromQueue_placeSummary id
  | placeShed hs =>
    exact timerLegal_of kept rfl rfl id
      (.of_mem fun _ hi => (mem_placeShed hi).imp_right fun h => ⟨_, h, by trivial⟩) id
  | placeSummary hs => exact timerLegal_of kept rfl rfl id fromQueue_placeSummary id
  | placeSync f hf hs =>
    exact timerLegal_of kept rfl rfl id
      (.of_mem fun _ hi => (mem_placeSync hi).imp_right fun h => ⟨_, h, by exact hf⟩) id
  | placeLeave => exact timerLegal_of kept rfl rfl id fromQueue_placeLeave id
  | dropSyncs => exact timerLegal_of kept rfl rfl id (fromQueue_sublist List.filter_sublist) id
  | resend b c st hb =>
    exact timerLegal_of kept rfl rfl id (fromQueue_placeTail (by cases b <;> trivial)) id
  | line l hr ho hl =>
    refine timerLegal_of kept rfl rfl id same fun _ => ?_
    rcases hl with hl | hl | hl | ⟨item, hl, hf⟩
    · exact frameLegal_resting hl
    · rw [hl]; trivial
    · rw [hl]; trivial
    · rw [hl]; exact hf
  | accept l item hr hp hl hroom ho hn hw hf =>
    exact timerLegal_of kept rfl rfl id same fun _ => by rw [hl]; exact hf
  | received l item hp hl => exact timerLegal_of kept rfl rfl id same fun _ => frameLegal_resting hl
  | attempt g i rest hs hp hq =>
    have hbody : TxBody.frameLegal i.body := htx i (by simp [hq])
    refine timerLegal_of kept rfl rfl id (fun j hj => ?_) fun _ => frameLegal_noticeOf hbody
    rcases List.mem_cons.1 hj with rfl | hj
    · exact .inl ⟨i, by simp [hq], rfl⟩
    · exact .inl ⟨j, by simp [hq, hj], rfl⟩
  | echoCell n hp => exact timerLegal_of kept rfl rfl id same fun h => by rw [hp] at h; exact h
  | attemptKept l count hown hl =>
    exact timerLegal_of kept rfl rfl id (fun _ hi => .inl (mem_keepAttempt hi)) fun _ => frameLegal_resting hl
  | attemptDropped l hown hl => exact timerLegal_of kept rfl rfl id dropped fun _ => frameLegal_resting hl
  | attemptWithdrawn l i c w wt hown hl =>
    exact timerLegal_of kept rfl rfl id dropped fun _ => frameLegal_resting hl
  | delivered l n i hp hl => exact timerLegal_of kept rfl rfl id dropped fun _ => frameLegal_resting hl
  | grantSweep hj hp =>
    exact ⟨hrun, fun h => by rw [hoff h] at hp; exact absurd hp (Nat.lt_irrefl _), hslice, hframe, Nat.zero_le _,
      hhold, htx, hline⟩
  | ownGrantedReleasing c =>
    rw [ownGrantedReleasing_eq]
    refine timerLegal_of kept rfl rfl id ?_ id
    dsimp only
    split
    · exact fromQueue_placeTail trivial
    · exact same
  | place => exact timerLegal_of kept rfl rfl id (fromQueue_placeTail trivial) id
  | giveBack c again hs =>
    rw [givenBack_eq c again hs]
    exact timerLegal_of kept rfl rfl id (fromQueue_placeTail trivial) id
  | _ => exact ⟨hrun, hoff, hslice, hframe, hsweep, hhold, htx, hline⟩

/-! ### Shed Control -/

theorem resendInterval_range {h : Nat} (hh : h ≤ 64) : 1 ≤ resendInterval h ∧ resendInterval h ≤ 32 := by
  unfold resendInterval
  omega

/-- The conditions on Shed Control, by its state. -/
theorem shedLegal_iff : ShedLegal s ↔
    (s.shed.state = .shedding → s.station.online = true ∧ 1 ≤ s.shed.hold ∧ s.shed.hold ≤ 64 ∧ s.shed.resend ≤ 32 ∧
      (s.supply.state = .low ↔ 1 ≤ s.shed.resend)) ∧
    (s.shed.state = .idle → s.shed.hold = 0 ∧ s.shed.resend = 0) ∧
    (∀ c, (s.chan c).shedSuspended = (s.shed.state == .shedding && s.settings.sheddable.get c)) ∧
    1 ≤ s.settings.shedHold ∧ s.settings.shedHold ≤ 64 := by
  unfold ShedLegal
  cases s.shed.state <;> simp

/-- Shed Control, the supply state, the settings and the shed-suspended marks stay. -/
theorem shedLegal_of (hi : ShedLegal s) (hshed : t.shed = s.shed)
    (hon : s.shed.state = .shedding → s.station.online = true → t.station.online = true)
    (hsup : t.supply.state = s.supply.state) (hset : t.settings = s.settings)
    (hc : ∀ c, (t.chan c).shedSuspended = (s.chan c).shedSuspended) : ShedLegal t := by
  obtain ⟨hs, hidle, hmarks, hhold⟩ := shedLegal_iff.1 hi
  refine shedLegal_iff.2 ⟨fun h => ?_, by rw [hshed]; exact hidle, fun c => by rw [hc, hshed, hset]; exact hmarks c,
    by rw [hset]; exact hhold⟩
  rw [hshed] at h ⊢
  obtain ⟨ho, rest⟩ := hs h
  exact ⟨hon h ho, by rw [hsup]; exact rest⟩

theorem shedLegal_idle (hshed : t.shed = .idle) (hset : 1 ≤ t.settings.shedHold ∧ t.settings.shedHold ≤ 64)
    (hc : ∀ c, (t.chan c).shedSuspended = false) : ShedLegal t :=
  shedLegal_iff.2 ⟨fun h => (by rw [hshed] at h; cases h), fun _ => by rw [hshed]; exact ⟨rfl, rfl⟩,
    fun c => by rw [hc, hshed]; rfl, hset⟩

theorem Settings.write_shedHold {i : SettingId} {v : Nat} {x : Settings} (hv : i.inRange v = true)
    (hx : 1 ≤ x.shedHold ∧ x.shedHold ≤ 64) : 1 ≤ (x.write v i).shedHold ∧ (x.write v i).shedHold ≤ 64 := by
  cases i with
  | shedHold => simpa [SettingId.inRange, Settings.write] using hv
  | _ => exact hx

/-- The entry to UNJOINED or HALTED clears every shed-suspended mark. -/
theorem Dropped.shedSuspended {q : ChanState → Bool} (h : Dropped q s t) (c : Chan) :
    (t.chan c).shedSuspended = false := by
  rw [h.1 c]
  split <;> rfl

theorem setChan_shedSuspended {c d : Chan} {ch : Channel} (h : ch.shedSuspended = (s.chan c).shedSuspended) :
    ((s.setChan c ch).chan d).shedSuspended = (s.chan d).shedSuspended := by
  rw [State.setChan_chan]
  split
  · next hd => rw [h, hd]
  · rfl

theorem Move.shedLegal {k : MoveKind} (m : Move s₀ k s t) (hi : ShedLegal s) : ShedLegal t := by
  have kept := hi
  obtain ⟨hshed, hidle, hmarks, hset⟩ := shedLegal_iff.1 hi
  have off : s.station.online = false → s.shed = .idle := fun ho => by
    cases hst : s.shed.state with
    | shedding => exact absurd (hshed hst).1 (by simp [ho])
    | idle =>
      obtain ⟨h1, h2⟩ := hidle hst
      cases hs : s.shed
      simp_all [ShedControl.idle]
  have unmarked : s.station.online = false → ∀ c, (s.chan c).shedSuspended = false := fun ho c => by
    rw [hmarks, off ho]
    rfl
  have shedded : ∀ ho : s.station.online = false, ∀ {t : State}, t.shed = s.shed → t.settings = s.settings →
      t.channels = s.channels → ShedLegal t := fun ho t h1 h2 h3 =>
    shedLegal_idle (h1.trans (off ho)) (by rw [h2]; exact hset) fun c => by
      rw [State.chan_congr h3]
      exact unmarked ho c
  -- a move on one channel record that leaves its shed-suspended mark
  have one : ∀ {x : State} (c : Chan) (ch : Channel), x.shed = s.shed → x.station = s.station →
      x.supply.state = s.supply.state → x.settings = s.settings → x.channels = s.channels →
      ch.shedSuspended = (s.chan c).shedSuspended → ShedLegal (x.setChan c ch) := fun {x} c ch h1 h2 h3 h4 h5 h6 =>
    shedLegal_of kept h1 (fun _ h => by rw [State.setChan_station, h2]; exact h) h3 h4 fun d =>
      (setChan_shedSuspended (by rw [h6, State.chan_congr h5])).trans (by rw [State.chan_congr h5])
  cases m with
  | port ht => rw [ht]; exact kept
  | outcome c => exact one c _ rfl rfl rfl rfl rfl rfl
  | write i v hs hv =>
    have ho : s.station.online = false := by rw [hs]; rfl
    exact shedLegal_idle (off ho) (Settings.write_shedHold hv hset) (unmarked ho)
  | join hs => exact shedded (by rw [hs]; rfl) rfl rfl rfl
  | unjoin hs => exact shedded (by rw [hs]; rfl) rfl rfl rfl
  | leaveDone ht hd =>
    have hsh : t.shed = .idle := by rw [ht]; rfl
    have hse : t.settings = s.settings := by rw [ht]; rfl
    exact shedLegal_idle hsh (hse ▸ hset) hd.shedSuspended
  | halt _ _ _ ht hd =>
    have hsh : t.shed = .idle := by rw [ht]; rfl
    have hse : t.settings = s.settings := by rw [ht]; rfl
    exact shedLegal_idle hsh (hse ▸ hset) hd.shedSuspended
  | reset ht hs =>
    have hsh : t.shed = .idle := by rw [ht]; rfl
    have hch : t.channels = Vector.replicate 8 Channel.reset := by rw [ht]; rfl
    refine shedLegal_idle hsh ?_ fun c => by rw [State.chan_eq, hch, get_replicate]; rfl
    rcases hs with hs | hs <;> rw [hs]
    · exact hset
    · decide
  | desync => exact shedLegal_of kept rfl (fun _ _ => rfl) rfl rfl fun _ => rfl
  | rejoin => exact shedLegal_of kept rfl (fun _ _ => rfl) rfl rfl fun _ => rfl
  | leaveStarted =>
    rw [leaveStarted_eq]
    exact shedLegal_idle rfl hset fun c => congrArg Channel.shedSuspended (leaveStarted_chan (s := s) c)
  | dropPlacing c => exact one c _ rfl rfl rfl rfl rfl rfl
  | withdraw c => exact one c _ rfl rfl rfl rfl rfl rfl
  | clearMarks c => exact one c _ rfl rfl rfl rfl rfl rfl
  | mark c => exact one c _ rfl rfl rfl rfl rfl rfl
  | shedStarted hs hi =>
    obtain ⟨r1, r2⟩ := resendInterval_range hset.2
    have interval : (if s.supply.state = .low then resendInterval s.settings.shedHold else 0) ≤ 32 ∧
        (s.supply.state = .low ↔ 1 ≤ if s.supply.state = .low then resendInterval s.settings.shedHold else 0) := by
      split
      · next h => exact ⟨r2, by simp [h, r1]⟩
      · next h => exact ⟨Nat.zero_le _, by simp [h]⟩
    refine shedLegal_iff.2 ⟨fun _ => ⟨hs, hset.1, hset.2, interval⟩, fun h => (nomatch h), fun c => ?_, hset⟩
    rw [shedStarted_chan]
    have hn := hmarks c
    rw [hi] at hn
    show _ = s.settings.sheddable.get c
    split
    · next h => rw [h]; rfl
    · next h => rw [hn]; simp [h]
  | shedRestarted su r hs hi h =>
    obtain ⟨r1, r2⟩ := resendInterval_range hset.2
    obtain ⟨ho, _, _, hr, hl⟩ := hshed hi
    refine shedLegal_iff.2 ⟨fun _ => ⟨ho, hset.1, hset.2, ?_⟩, fun h => (by rw [hi] at h; cases h), hmarks, hset⟩
    rcases h with ⟨h1, rfl⟩ | ⟨h1, rfl⟩
    · exact ⟨hr, by rw [h1]; exact hl⟩
    · exact ⟨r2, by simp [h1, r1]⟩
  | supplyLow su h hsu =>
    have hidle' : s.shed.state = .idle := by
      rcases h with h | h
      · exact h
      · rw [off h]; rfl
    exact shedLegal_iff.2 ⟨fun h => (by rw [hidle'] at h; cases h), hidle, hmarks, hset⟩
  | supplyNormal su hsu =>
    refine shedLegal_iff.2 ⟨fun h => ?_, fun h => ?_, fun c => ?_, hset⟩ <;> dsimp only at *
    · split at h
      · next hs =>
        obtain ⟨ho, h1, h2, _, _⟩ := hshed hs
        rw [if_pos hs]
        exact ⟨ho, h1, h2, Nat.zero_le _, by simp [hsu]⟩
      · next hs => exact absurd h hs
    · split at h
      · next hs => exact absurd h (by simp [hs])
      · next hs =>
        rw [if_neg hs]
        exact hidle h
    · have : (if s.shed.state = .shedding then { s.shed with resend := 0 } else s.shed).state = s.shed.state := by
        split <;> rfl
      rw [this]
      exact hmarks c
  | shedCounted h r hs hh hr =>
    obtain ⟨_, r2⟩ := resendInterval_range hset.2
    obtain ⟨ho, h1, h2, h3, h4⟩ := hshed hs
    refine shedLegal_iff.2 ⟨fun _ => ⟨ho, ?_⟩, fun h => (by rw [hs] at h; cases h), hmarks, hset⟩
    dsimp only
    have hold : 1 ≤ h ∧ h ≤ 64 := by omega
    refine ⟨hold.1, hold.2, ?_⟩
    rcases hr with rfl | ⟨hl, hr1, hr⟩
    · exact ⟨h3, h4⟩
    · exact ⟨by omega, by simp [hl, hr1]⟩
  | shedOver => exact shedLegal_idle rfl hset fun c => congrArg Channel.shedSuspended (State.cancelShed_chan s c)
  | slice => exact kept
  | frame f =>
    refine shedLegal_of kept (by rw [nextFrame_eq]) (fun _ h => by rw [nextFrame_eq]; exact h) (by rw [nextFrame_eq])
      (by rw [nextFrame_eq]) fun c => ?_
    rw [nextFrame_chan]
    split <;> rfl
  | listened hs => exact shedded (by rw [hs]; rfl) rfl rfl rfl
  | ownGranted c => exact one c _ rfl rfl rfl rfl rfl rfl
  | ownGrantedReleasing c => rw [ownGrantedReleasing_eq]; exact one c _ rfl rfl rfl rfl rfl rfl
  | ownVoid c => exact one c _ rfl rfl rfl rfl rfl rfl
  | ownVoidAgain c => exact one c _ rfl rfl rfl rfl rfl rfl
  | ownReleased c => exact one c _ rfl rfl rfl rfl rfl rfl
  | ownYielded c => exact one c _ rfl rfl rfl rfl rfl rfl
  | request c => exact one c _ rfl rfl rfl rfl rfl rfl
  | number c => exact one c _ rfl rfl rfl rfl rfl rfl
  | place c => exact one c _ rfl rfl rfl rfl rfl rfl
  | giveBack c again hs =>
    refine shedLegal_of kept (by rw [givenBack_eq c again hs]) (fun _ h => by rw [givenBack_eq c again hs]; exact h)
      (by rw [givenBack_eq c again hs]) (by rw [givenBack_eq c again hs]) fun d => ?_
    rw [givenBack_chan c d again hs]
    split
    · next h => rw [h]
    · rfl
  | _ => exact shedLegal_iff.2 ⟨hshed, hidle, hmarks, hset⟩

end Sys2Proof.Machine
end

section
/-! PROOFS. The settings, the Station Controller and a station off the line (R133, R135, R147). -/

namespace Sys2Proof.Machine

open Sys2Proof.Safety

variable {s₀ s t : State}

/-! ### The settings -/

/-- A move leaves the settings, writes one of them a value in its range, or resets them. -/
theorem Move.settings_cases {k : MoveKind} (m : Move s₀ k s t) :
    t.settings = s.settings ∨ (∃ i v, SettingId.inRange v i = true ∧ t.settings = s.settings.write v i) ∨
      t.settings = Settings.reset := by
  by_cases hk : k ≠ .write ∧ k ≠ .clears
  · exact .inl (m.settings hk)
  · cases m with
    | port ht => exact .inl (by rw [ht])
    | write i v hs hv => exact .inr (.inl ⟨i, v, hv, rfl⟩)
    | reset ht hs => exact hs.imp_right .inr
    | frame f _ _ h =>
      rcases h with rfl | ⟨rfl, -⟩
      · exact absurd ⟨by simp, by simp⟩ hk
      · exact absurd ⟨by simp, by simp⟩ hk
    | jobOver h => exact .inl rfl
    | _ => exact absurd ⟨by simp, by simp⟩ hk

/-- A setting written with a value in its range leaves every setting in its range (R135). -/
theorem settingsLegal_write {i : SettingId} {v : Nat} (hv : i.inRange v = true) (hi : SettingsLegal s)
    (ht : t.settings = s.settings.write v i) : SettingsLegal t := by
  obtain ⟨h1, h2, h3, h4, h5, h6, h7, h8, h9⟩ := hi
  unfold SettingsLegal
  rw [ht]
  cases i with
  | weight c =>
    refine ⟨h1, h2, h3, h4, h5, h6, h7, h8, fun d => ?_⟩
    have hd := get_set s.settings.weight c d v
    show (s.settings.weight.set c v).get d ≤ 63
    rw [hd]
    split
    · simpa [SettingId.inRange] using hv
    · exact h9 d
  | sheddable c => exact ⟨h1, h2, h3, h4, h5, h6, h7, h8, h9⟩
  | invert c => exact ⟨h1, h2, h3, h4, h5, h6, h7, h8, h9⟩
  | stationNumber => exact ⟨of_decide_eq_true hv, h2, h3, h4, h5, h6, h7, h8, h9⟩
  | lineRate => exact ⟨h1, of_decide_eq_true hv, h3, h4, h5, h6, h7, h8, h9⟩
  | sliceLength => exact ⟨h1, h2, of_decide_eq_true hv, h4, h5, h6, h7, h8, h9⟩
  | budget => exact ⟨h1, h2, h3, by simpa [SettingId.inRange, Settings.write] using hv, h5, h6, h7, h8, h9⟩
  | summaryInterval => exact ⟨h1, h2, h3, h4, by simpa [SettingId.inRange, Settings.write] using hv, h6, h7, h8, h9⟩
  | silenceLimit => exact ⟨h1, h2, h3, h4, h5, by simpa [SettingId.inRange, Settings.write] using hv, h7, h8, h9⟩
  | shedHold => exact ⟨h1, h2, h3, h4, h5, h6, by simpa [SettingId.inRange, Settings.write] using hv, h8, h9⟩
  | supplyThreshold => exact ⟨h1, h2, h3, h4, h5, h6, h7, of_decide_eq_true hv, h9⟩

theorem settingsLegal_reset (ht : t.settings = Settings.reset) : SettingsLegal t := by
  unfold SettingsLegal
  rw [ht]
  decide

theorem Move.settingsLegal {k : MoveKind} (m : Move s₀ k s t) (hi : SettingsLegal s) : SettingsLegal t := by
  rcases m.settings_cases with h | ⟨i, v, hv, h⟩ | h
  · unfold SettingsLegal
    rw [h]
    exact hi
  · exact settingsLegal_write hv hi h
  · exact settingsLegal_reset h

/-! ### The Station Controller -/

theorem silenceLimit_write {i : SettingId} {v : Nat} {x : Settings} (hv : i.inRange v = true)
    (hx : 1 ≤ x.silenceLimit ∧ x.silenceLimit ≤ 64) :
    1 ≤ (x.write v i).silenceLimit ∧ (x.write v i).silenceLimit ≤ 64 := by
  cases i with
  | silenceLimit =>
    simp only [SettingId.inRange, Bool.and_eq_true, decide_eq_true_eq] at hv
    exact ⟨by simp only [Settings.write]; omega, hv.2⟩
  | _ => exact hx

/-- The halt cause, the listen count and the settings stay, and the station state moves between states that are neither
LISTENING nor HALTED. -/
theorem stationLegal_of (hi : StationLegal s) (hs : s.station ≠ .halted) (hl : s.station ≠ .listening)
    (ht : t.station ≠ .halted) (htl : t.station ≠ .listening) (hc : t.haltCause = s.haltCause)
    (hn : t.listenCount = s.listenCount) (hset : t.settings = s.settings) : StationLegal t := by
  obtain ⟨icause, ilisten, ilimit⟩ := hi
  rw [if_neg hl] at ilisten
  unfold StationLegal
  rw [if_neg htl, hc, hn, hset]
  exact ⟨by simp [icause, hs, ht], ilisten, ilimit⟩

theorem Move.stationLegal {k : MoveKind} (m : Move s₀ k s t) (hi : StationLegal s) : StationLegal t := by
  have kept := hi
  obtain ⟨hcause, hlisten, hlimit⟩ := hi
  have ofOnline : s.station.online = true → s.station ≠ .halted ∧ s.station ≠ .listening := fun h => by
    rcases StationState.online_iff.1 h with h | h <;> simp [h]
  cases m with
  | port ht => rw [ht]; exact kept
  | write i v hs hv =>
    exact ⟨hcause, hlisten, silenceLimit_write hv hlimit⟩
  | join hs => exact ⟨by simp [State.startListening], by simpa [State.startListening] using hlimit, hlimit⟩
  | unjoin hs =>
    rw [if_neg (by simp [hs])] at hlisten
    exact ⟨by simp, hlisten, hlimit⟩
  | leaveDone ht hd =>
    have hset : t.settings = s.settings := by rw [ht]; rfl
    have h1 : t.station = .unjoined := by rw [ht]
    have h2 : t.haltCause = .none := by rw [ht]
    have h3 : t.listenCount = 0 := by rw [ht]; rfl
    simp only [StationLegal, hset, h1, h2, h3]
    exact ⟨by simp, by simp, hlimit⟩
  | halt cause hc hr ht hd =>
    have hset : t.settings = s.settings := by rw [ht]; rfl
    have h1 : t.station = .halted := by rw [ht]
    have h2 : t.haltCause = cause := by rw [ht]
    have h3 : t.listenCount = 0 := by rw [ht]; rfl
    simp only [StationLegal, hset, h1, h2, h3]
    exact ⟨by simp [hc], by simp, hlimit⟩
  | reset ht hs =>
    have h1 : t.station = .unjoined := by rw [ht]; rfl
    have h2 : t.haltCause = .none := by rw [ht]; rfl
    have h3 : t.listenCount = 0 := by rw [ht]; rfl
    simp only [StationLegal, h1, h2, h3]
    refine ⟨by simp, by simp, ?_⟩
    rcases hs with hs | hs <;> rw [hs]
    · exact hlimit
    · decide
  | desync hs => exact stationLegal_of kept (ofOnline hs).1 (ofOnline hs).2 (by simp) (by simp) rfl rfl rfl
  | rejoin hs => exact stationLegal_of kept (by simp [hs]) (by simp [hs]) (by simp) (by simp) rfl rfl rfl
  | leaveStarted hs =>
    exact stationLegal_of kept (ofOnline hs).1 (ofOnline hs).2 (fun h => nomatch h) (fun h => nomatch h) rfl rfl rfl
  | frame f => rw [nextFrame_eq]; exact kept
  | listenDown hs hl =>
    rw [if_pos hs] at hlisten
    refine ⟨hcause, ?_, hlimit⟩
    rw [if_pos (by exact hs)]
    exact ⟨by simp only; omega, by simp only; omega⟩
  | listened hs =>
    have := hcause.2 (by simp [hs])
    exact ⟨by simp [this], by simp, hlimit⟩
  | listenAgain hs => exact ⟨hcause, by rw [if_pos (by exact hs)]; exact hlimit, hlimit⟩
  | ownGrantedReleasing c => rw [ownGrantedReleasing_eq]; exact ⟨hcause, hlisten, hlimit⟩
  | giveBack c again hs => rw [givenBack_eq c again hs]; exact ⟨hcause, hlisten, hlimit⟩
  | _ => exact ⟨hcause, hlisten, hlimit⟩

/-! ### Off the line -/

theorem withdrawalOf_off {c : Chan} {l : LineInterface} {q : List TxItem} {ws : List Chan}
    (h : WithdrawalOf s c l q ws) (htx : s.txQueue = []) (hline : s.line = LineInterface.quiet)
    (hws : s.unit.withdrawals = []) (hl : s.unit.leaveWaiting = false) : False := by
  cases h with
  | asked h => simp [hws] at h
  | leaving h => simp [hl] at h
  | queued h => simp [htx, claimWaits] at h
  | settled hown => simp [hline, LineInterface.quiet, LinePhase.isOwn] at hown

theorem Move.quietWhenOff {k : MoveKind} (m : Move s₀ k s t) (h₀ : QuietWhenOff s₀) (hi : QuietWhenOff s) :
    QuietWhenOff t := by
  have online : s.station.online = true → s.station.running = false → False := fun ho hr => by
    rw [StationState.running_of_online ho] at hr
    cases hr
  -- a job that evaluates or sweeps, or places, does not run off the line
  have working : ∀ {j : Job}, s.unit.job = some j → quietJob (some j) = false → s.station.running = false → False :=
    fun hj hq hr => by
      obtain ⟨-, -, -, -, -, -, -, -, -, -, -, -, -, -, h⟩ := hi hr
      rw [hj, hq] at h
      cases h
  have clearing : clearsMarks s.unit.job = true → s.station.running = false → False := fun hc hr => by
    cases hj : s.unit.job with
    | none => rw [hj] at hc; cases hc
    | some j => cases j <;> rw [hj] at hc <;> first | exact working hj rfl hr | cases hc
  have silent : s.station.running = false → s.line = LineInterface.quiet := fun hr => (hi hr).2.2.2.2.2.2.1
  have attempting : s.line.phase.isOwn = true → s.station.running = false → False := fun hown hr => by
    rw [silent hr] at hown
    cases hown
  have off : ∀ {x : State}, (s.station.running = false → False) → x.station = s.station → QuietWhenOff x :=
    fun h hx hr => (h (hx ▸ hr)).elim
  cases m with
  | port ht => rw [ht]; exact hi
  | join => exact fun hr => nomatch hr
  | unjoin hs => exact fun _ => hi (by rw [hs]; rfl)
  | leaveDone ht => rw [ht]; exact fun _ => ⟨rfl, rfl, rfl, rfl, rfl, rfl, rfl, rfl, rfl, rfl, rfl, rfl, rfl, rfl, rfl⟩
  | halt _ _ _ ht =>
    rw [ht]; exact fun _ => ⟨rfl, rfl, rfl, rfl, rfl, rfl, rfl, rfl, rfl, rfl, rfl, rfl, rfl, rfl, rfl⟩
  | reset ht => rw [ht]; exact fun _ => ⟨rfl, rfl, rfl, rfl, rfl, rfl, rfl, rfl, rfl, rfl, rfl, rfl, rfl, rfl, rfl⟩
  | desync => exact fun hr => nomatch hr
  | refill hs => exact off (fun hr => by rw [hs] at hr; cases hr) rfl
  | refillDropped =>
    intro hr
    obtain ⟨h1, h2, h3, h4, h5, h6, h7, h8, h9, h10, h11, h12, h13, -, h15⟩ := hi hr
    exact ⟨h1, h2, h3, h4, h5, h6, h7, h8, h9, h10, h11, h12, h13, rfl, h15⟩
  | rejoin => exact fun hr => nomatch hr
  | leaveStarted => exact fun hr => nomatch hr
  | leaveCleared hw =>
    refine off (fun hr => ?_) rfl
    obtain ⟨-, -, -, -, -, -, -, -, -, -, -, -, h, -⟩ := hi hr
    rw [hw] at h
    cases h
  | withdraw c l q ws hc hw =>
    refine off (fun hr => ?_) rfl
    obtain ⟨-, -, -, h4, -, -, h7, -, -, -, -, h12, h13, -, -⟩ := hi hr
    exact withdrawalOf_off hw h4 h7 h12 h13
  | notWithdrawn c =>
    intro hr
    obtain ⟨h1, h2, h3, h4, h5, h6, h7, h8, h9, h10, h11, h12, h13, h14, h15⟩ := hi hr
    exact ⟨h1, h2, h3, h4, h5, h6, h7, h8, h9, h10, h11, by simp [h12], h13, h14, h15⟩
  | shedStarted hs => exact off (online hs) rfl
  | shedRestarted su r hs => exact off (online hs) rfl
  | supplyNormal su hsu =>
    intro hr
    obtain ⟨h1, h2, h3, h4, h5, h6, h7, h8, h9, h10, h11, rest⟩ := hi hr
    exact ⟨h1, h2, h3, h4, h5, h6, h7, h8, h9, h10, by simp [h11, ShedControl.idle], rest⟩
  | shedCounted h r hs =>
    refine off (fun hr => ?_) rfl
    obtain ⟨-, -, -, -, -, -, -, -, -, -, h11, -⟩ := hi hr
    rw [h11] at hs
    cases hs
  | shedOver =>
    intro hr
    obtain ⟨h1, h2, h3, h4, h5, h6, h7, h8, h9, h10, -, rest⟩ := hi hr
    exact ⟨h1, h2, h3, h4, h5, h6, h7, h8, h9, h10, rfl, rest⟩
  | slice hr' =>
    refine off (fun hr => ?_) rfl
    obtain ⟨-, -, -, -, -, -, -, h8, -⟩ := hi hr
    rw [h8] at hr'
    cases hr'
  | hold hs => exact off (online hs) rfl
  | frame f hr' =>
    refine off (fun hr => ?_) (by rw [nextFrame_eq])
    obtain ⟨-, -, -, -, -, -, -, h8, -⟩ := hi hr
    rw [h8, hr] at hr'
    simp [FrameTimer.stopped] at hr'
  | summaryTimer v hs => exact off (online hs) rfl
  | listenDown hs => exact off (fun hr => by rw [hs] at hr; cases hr) rfl
  | listened => exact fun hr => nomatch hr
  | listenAgain hs => exact off (fun hr => by rw [hs] at hr; cases hr) rfl
  | placeShed hs => exact off (online hs) rfl
  | placeSummary hs => exact off (online hs) rfl
  | placeSync f hf hs => exact off (online hs) rfl
  | placeLeave hown hr' =>
    have hr₀ : s₀.station.running = true := by
      by_contra h
      obtain ⟨-, -, -, -, -, -, h7, -⟩ := h₀ (by simpa using h)
      rw [h7] at hown
      cases hown
    exact off (fun hr => by rw [hr' hr₀] at hr; cases hr) rfl
  | dropSyncs =>
    intro hr
    obtain ⟨h1, h2, h3, h4, h5⟩ := hi hr
    exact ⟨h1, h2, h3, by simp [h4, withdrawItems], h5⟩
  | resend b c st hb hc hs => exact off (online hs) rfl
  | lineTime a b hr' => exact off (fun hr => by rw [hr'] at hr; cases hr) rfl
  | line l hr' =>
    refine off (fun hr => ?_) rfl
    rw [silent hr, hr] at hr'
    simp [LineInterface.quiet] at hr'
  | accept l item hr' => exact off (fun hr => by rw [hr'] at hr; cases hr) rfl
  | received l item hp => exact off (fun hr => by rw [silent hr] at hp; cases hp) rfl
  | attempt g i rest hs =>
    exact off (fun hr => by rw [StationState.running_of_sends hs] at hr; cases hr) rfl
  | echoCell n hp => exact off (attempting (by rw [hp]; rfl)) rfl
  | attemptKept l count hown => exact off (attempting hown) rfl
  | attemptDropped l hown => exact off (attempting hown) rfl
  | attemptWithdrawn l i c w wt hown => exact off (attempting hown) rfl
  | delivered l n i hp => exact off (attempting (by rw [hp]; rfl)) rfl
  | grantEvaluate item rest hj hq =>
    refine off (fun hr => ?_) rfl
    obtain ⟨-, -, -, -, h5, -⟩ := hi hr
    rw [hq] at h5
    cases h5
  | grantSweep hj hp =>
    refine off (fun hr => ?_) rfl
    obtain ⟨-, -, -, -, -, -, -, h8, -⟩ := hi hr
    rw [h8] at hp
    exact absurd hp (Nat.lt_irrefl _)
  | grantHost tk =>
    intro hr
    obtain ⟨h1, h2, h3, h4, h5, h6, h7, h8, h9, h10, h11, h12, h13, h14, -⟩ := hi hr
    exact ⟨h1, h2, h3, h4, h5, h6, h7, h8, h9, h10, h11, h12, h13, h14, rfl⟩
  | grantPlacement c hj hs => exact off (fun hr => by rw [hs] at hr; cases hr) rfl
  | jobOver =>
    intro hr
    obtain ⟨h1, h2, h3, h4, h5, h6, h7, h8, h9, h10, h11, h12, h13, h14, -⟩ := hi hr
    exact ⟨h1, h2, h3, h4, h5, h6, h7, h8, h9, h10, h11, h12, h13, h14, rfl⟩
  | ownGranted c n w wt hj => exact off (working hj rfl) rfl
  | ownGrantedReleasing c n w wt hj => exact off (working hj rfl) (by rw [ownGrantedReleasing_eq])
  | ownVoid c n w wt hj => exact off (working hj rfl) rfl
  | ownVoidAgain c n w wt hj => exact off (working hj rfl) rfl
  | ownReleased c n hj => exact off (working hj rfl) rfl
  | ownYielded c n hj => exact off (working hj rfl) rfl
  | newPeer n notice hj => exact off (working hj rfl) rfl
  | report n f hc => exact off (clearing hc) rfl
  | removeStation n b hc => exact off (clearing hc) rfl
  | lossNoted lost hj => exact off (working hj rfl) rfl
  | heardDrop n c notice hj => exact off (working hj rfl) rfl
  | heardAdd n c w wt b hj => exact off (working hj rfl) rfl
  | heardAdopt n budget ls b hj => exact off (working hj rfl) rfl
  | place c w b hs => exact off (online hs) rfl
  | giveBack c again hs => exact off (online hs) (by rw [givenBack_eq c again hs])
  | _ => exact hi

/-! ### O11 -/

/-- Settles O11: every move keeps each of the five conditions. -/
theorem timerShedAndControllerStayInRange : Obligations.TimerShedAndControllerStayInRange :=
  ⟨kept_of_moves (fun _ _ _ _ m h₀ hi => m.timerLegal h₀ hi) fun _ _ hi => hi,
    kept_of_moves (fun _ _ _ _ m _ hi => m.shedLegal hi) fun _ _ hi => hi,
    kept_of_moves (fun _ _ _ _ m _ hi => m.settingsLegal hi) fun _ _ hi => hi,
    kept_of_moves (fun _ _ _ _ m _ hi => m.stationLegal hi) fun _ _ hi => hi,
    kept_of_moves (fun _ _ _ _ m h₀ hi => m.quietWhenOff h₀ hi) fun _ _ hi => hi⟩

end Sys2Proof.Machine
end

section
/-! PROOFS. The channel records and the grant list (R32, R53, R64). -/

namespace Sys2Proof.Machine

open Sys2Proof.Safety

variable {s₀ s t : State}

/-! ### A PLACEMENT job serves a PLACING channel -/

theorem placementServes_of (hi : PlacementServes s)
    (h : ∀ c, t.unit.job = some (.placement c) →
      s.unit.job = some (.placement c) ∧ ((s.chan c).state = .placing → (t.chan c).state = .placing)) :
    PlacementServes t := fun c hc => (h c hc).2 (hi c (h c hc).1)

/-- One channel that the running job does not place gets another record. -/
theorem placementServes_setChan {x : State} {c : Chan} {ch : Channel} (hi : PlacementServes s)
    (hx : x.channels = s.channels) (hu : x.unit.job = s.unit.job)
    (hc : (s.chan c).state = .placing → s.unit.job = some (.placement c) → ch.state = .placing) :
    PlacementServes (x.setChan c ch) := placementServes_of hi fun d hd => by
  have hd' : s.unit.job = some (.placement d) := hu ▸ hd
  refine ⟨hd', fun hp => ?_⟩
  rw [State.setChan_chan]
  split
  · next h => subst h; exact hc hp hd'
  · rw [State.chan_congr hx]; exact hp

theorem Move.placementServes {k : MoveKind} (m : Move s₀ k s t) (hi : PlacementServes s) :
    PlacementServes t := by
  have idle : t.unit.job = none → PlacementServes t := fun h c hc => by rw [h] at hc; cases hc
  cases m with
  | port ht => rw [ht]; exact hi
  | outcome c => exact placementServes_setChan hi rfl rfl fun h _ => h
  | leaveDone ht => exact idle (by rw [ht]; rfl)
  | halt _ _ _ ht => exact idle (by rw [ht]; rfl)
  | reset ht => exact idle (by rw [ht]; rfl)
  | leaveStarted => exact placementServes_of hi fun c hc => ⟨hc, fun h => by rw [leaveStarted_chan]; exact h⟩
  | dropPlacing c hc hj => exact placementServes_setChan hi rfl rfl fun _ h => absurd h hj
  | withdraw c l q ws hc => exact placementServes_setChan hi rfl rfl fun h => absurd h (by simp [hc])
  | clearMarks c => exact placementServes_setChan hi rfl rfl fun h _ => h
  | mark c => exact placementServes_setChan hi rfl rfl fun h _ => h
  | shedStarted =>
    refine placementServes_of hi fun c hc => ⟨hc, fun h => ?_⟩
    rw [shedStarted_chan]
    split <;> exact h
  | shedOver => exact placementServes_of hi fun c hc => ⟨hc, fun h => by rw [State.cancelShed_chan]; exact h⟩
  | slice => exact hi
  | frame f =>
    refine placementServes_of hi fun c hc => ⟨by rw [nextFrame_eq] at hc; exact hc, fun h => ?_⟩
    rw [nextFrame_chan]
    split <;> exact h
  | grantEvaluate => exact fun c hc => nomatch hc
  | grantSweep => exact fun c hc => nomatch hc
  | grantHost => exact fun c hc => nomatch hc
  | grantPlacement c hj hs hc =>
    intro d hd
    cases hd
    exact hc
  | lossNoted => exact fun c hc => nomatch hc
  | jobOver => exact idle rfl
  | ownGranted => exact idle rfl
  | ownGrantedReleasing => exact idle (by rw [ownGrantedReleasing_eq])
  | ownVoid => exact idle rfl
  | ownVoidAgain => exact idle rfl
  | ownReleased => exact idle rfl
  | ownYielded => exact idle rfl
  | request c mode start len hs hc => exact placementServes_setChan hi rfl rfl fun h => absurd h (by simp [hc])
  | number c => exact placementServes_setChan hi rfl rfl fun h _ => h
  | place c w b hs hc hj => exact placementServes_setChan hi rfl rfl fun _ h => absurd h hj
  | giveBack c again hs hc =>
    rw [givenBack_eq c again hs]
    exact placementServes_setChan (x := { s with
      book := s.book.restateKey s.settings.stationNumber c .releasing
      driven := (s.givenBack c again).driven, txQueue := placeTail (.release c) s.txQueue }) hi rfl rfl
      fun h => absurd (hc.symm.trans h) (by simp)
  | _ => exact hi

/-! ### Channel records -/

theorem records_setChan {x : State} {c : Chan} {ch : Channel} (hi : ∀ d, RecordLegal (s.chan d))
    (hx : x.channels = s.channels) (hch : RecordLegal ch) : ∀ d, RecordLegal ((x.setChan c ch).chan d) := fun d => by
  rw [State.setChan_chan]
  split
  · exact hch
  · rw [State.chan_congr hx]; exact hi d

section Records

variable {ch : Channel} (h : RecordLegal ch)
include h

theorem dark_of_legal (hs : ch.state ≠ .held) : ch.live = false := by
  by_contra hl
  exact hs (h.1 (by simpa using hl)).1

theorem noPending_of_legal (hp : ch.state ≠ .placing) (hc : ch.state ≠ .claiming) : ch.releasePending = false := by
  by_contra hl
  exact (h.2.1 (by simpa using hl)).elim hp hc

theorem noReRequest_of_legal (hs : ch.state ≠ .releasing) : ch.reRequest = false := by
  by_contra hl
  exact hs (h.2.2.1 (by simpa using hl))

theorem recordLegal_toIdle : RecordLegal ch.toIdle := by
  simp [RecordLegal, Channel.toIdle, entryStateOf, h.2.2.2.2]

theorem recordLegal_unmarked : RecordLegal (unmarked ch) := by
  simp [RecordLegal, unmarked, h.2.2.2]

theorem recordLegal_dropped (b : Bool) : RecordLegal (droppedRecord b ch) := by
  simp [RecordLegal, droppedRecord, unmarked, entryStateOf, h.2.2.2.2]

theorem recordLegal_suspend : RecordLegal ch.suspend := by
  exact ⟨by simp [Channel.suspend], h.2⟩

theorem recordLegal_makeLive : RecordLegal ch.makeLive := by
  refine ⟨fun hl => ?_, h.2⟩
  simp only [Channel.makeLive, Bool.or_eq_true, Bool.and_eq_true, beq_iff_eq, Bool.not_eq_true'] at hl
  exact hl.elim h.1 id

theorem recordLegal_held (hs : ch.state = .claiming) (hr : ch.releasePending = false) :
    RecordLegal { ch with state := .held } := by
  simp [RecordLegal, dark_of_legal h, noReRequest_of_legal h, hs, hr, h.2.2.2.1, h.2.2.2.2, entryStateOf]

theorem recordLegal_releasing (hs : ch.state = .claiming) :
    RecordLegal { ch with state := .releasing, releasePending := false } := by
  simp [RecordLegal, dark_of_legal h, noReRequest_of_legal h, hs, h.2.2.2.1, h.2.2.2.2, entryStateOf]

theorem recordLegal_givenBack (again : Bool) (hs : ch.state = .held) :
    RecordLegal { ch with state := .releasing, live := false, reRequest := again } := by
  simp [RecordLegal, noPending_of_legal h, hs, h.2.2.2.1, h.2.2.2.2, entryStateOf]

theorem recordLegal_placeAgain (hs : ch.state = .claiming) (ha : ch.attempts < 4) : RecordLegal ch.placeAgain := by
  have : ch.attempts + 1 ≤ 4 := ha
  simp [RecordLegal, Channel.placeAgain, dark_of_legal h, noReRequest_of_legal h, hs, this, entryStateOf]

omit h in
theorem recordLegal_placeAnew : RecordLegal ch.placeAnew := by
  simp [RecordLegal, Channel.placeAnew, Channel.toIdle, entryStateOf]

theorem recordLegal_claiming (w : Window) (hs : ch.state = .placing) :
    RecordLegal { ch with state := .claiming, window := some w } := by
  simp [RecordLegal, dark_of_legal h, noReRequest_of_legal h, hs, h.2.2.2.2, entryStateOf]

theorem recordLegal_numbered : RecordLegal ch.numberPlacement := by
  have := h.2.2.2.2
  exact ⟨h.1, h.2.1, h.2.2.1, h.2.2.2.1, Nat.max_le.2 ⟨by decide, this⟩⟩

end Records

theorem recordLegal_reset : RecordLegal Channel.reset := by
  simp [RecordLegal, Channel.reset, entryStateOf]

theorem Dropped.records {q : ChanState → Bool} (h : Dropped q s t) (hi : ∀ c, RecordLegal (s.chan c)) (c : Chan) :
    RecordLegal (t.chan c) := by
  rw [h.1 c]
  split
  · exact recordLegal_dropped (hi c) _
  · exact recordLegal_unmarked (hi c)

theorem Move.records {k : MoveKind} (m : Move s₀ k s t) (h₀ : PlacementServes s₀) (hp : PlacementServes s)
    (hi : ∀ c, RecordLegal (s.chan c)) : ∀ c, RecordLegal (t.chan c) := by
  cases m with
  | port ht => rw [ht]; exact hi
  | outcome c => exact records_setChan hi rfl (hi c)
  | leaveDone ht hd => exact hd.records hi
  | halt _ _ _ ht hd => exact hd.records hi
  | reset ht =>
    have hch : t.channels = Vector.replicate 8 Channel.reset := by rw [ht]; rfl
    intro c
    rw [State.chan_eq, hch, get_replicate]
    exact recordLegal_reset
  | leaveStarted =>
    intro c
    rw [leaveStarted_chan]
    exact ⟨by simp, (hi c).2⟩
  | dropPlacing c => exact records_setChan hi rfl (recordLegal_toIdle (hi c))
  | withdraw c => exact records_setChan hi rfl (recordLegal_toIdle (hi c))
  | clearMarks c =>
    obtain ⟨hlive, -, -, hw, ha⟩ := hi c
    exact records_setChan hi rfl ⟨hlive, by simp, by simp, hw, ha⟩
  | mark c h =>
    obtain ⟨hlive, -, rest⟩ := hi c
    exact records_setChan hi rfl ⟨hlive, fun _ => h.imp_left (hp c), rest⟩
  | shedStarted =>
    intro c
    rw [shedStarted_chan]
    split
    · exact recordLegal_suspend (hi c)
    · exact hi c
  | shedOver =>
    intro c
    obtain ⟨hlive, rest⟩ := hi c
    rw [State.cancelShed_chan]
    exact ⟨fun h => ⟨(hlive h).1, rfl⟩, rest⟩
  | slice => exact hi
  | frame f =>
    intro c
    rw [nextFrame_chan]
    split
    · exact recordLegal_makeLive (hi c)
    · exact hi c
  | ownGranted c n w wt hj hc hr => exact records_setChan hi rfl (recordLegal_held (hi c) hc hr)
  | ownGrantedReleasing c n w wt hj hc =>
    rw [ownGrantedReleasing_eq]
    exact records_setChan (x := { s with
      book := _, unit := _, grants := _, txQueue := _ }) hi rfl (recordLegal_releasing (hi c) hc)
  | ownVoid c => exact records_setChan hi rfl (recordLegal_toIdle (hi c))
  | ownVoidAgain c n w wt hj hc hr ha => exact records_setChan hi rfl (recordLegal_placeAgain (hi c) hc ha)
  | ownReleased c => exact records_setChan hi rfl (recordLegal_toIdle (hi c))
  | ownYielded c => exact records_setChan hi rfl recordLegal_placeAnew
  | request c mode start len hs hc =>
    have hd := dark_of_legal (hi c) (by simp [hc])
    have hw : (s.chan c).window.isSome = false := by rw [(hi c).2.2.2.1, hc]; rfl
    exact records_setChan hi rfl (by simp [RecordLegal, hd, hw, entryStateOf])
  | number c => exact records_setChan hi rfl (recordLegal_numbered (hi c))
  | place c w b hs hc => exact records_setChan hi rfl (recordLegal_claiming (hi c) w (hc h₀))
  | giveBack c again hs hc =>
    rw [givenBack_eq c again hs]
    exact records_setChan (x := { s with
      book := _, driven := _, txQueue := _ }) hi rfl (recordLegal_givenBack (hi c) again hc)
  | _ => exact hi

/-! ### The grant list -/

/-- The grant list is that of the HELD and RELEASING channels (R64). -/
def Granted (s : State) : Prop :=
  s.grants.Nodup ∧ ∀ c : Chan, c ∈ s.grants ↔ (s.chan c).state = .held ∨ (s.chan c).state = .releasing

theorem granted_of (hi : Granted s) (hg : t.grants = s.grants)
    (hc : ∀ c, ((t.chan c).state = .held ∨ (t.chan c).state = .releasing) ↔
      ((s.chan c).state = .held ∨ (s.chan c).state = .releasing)) : Granted t :=
  ⟨hg ▸ hi.1, fun c => by rw [hg, hi.2 c, hc c]⟩

/-- One channel that is in the list gets another record that belongs there, or one that is not one that does not. -/
theorem granted_setChan {x : State} {c : Chan} {ch : Channel} (hi : Granted s) (hx : x.channels = s.channels)
    (hg : x.grants = s.grants) (hc : (ch.state = .held ∨ ch.state = .releasing) ↔
      ((s.chan c).state = .held ∨ (s.chan c).state = .releasing)) : Granted (x.setChan c ch) :=
  granted_of hi hg fun d => by
    rw [State.setChan_chan]
    split
    · next h => rw [h]; exact hc
    · rw [State.chan_congr hx]

theorem granted_empty (hg : t.grants = []) (hc : ∀ c, (t.chan c).state = .idle ∨ (t.chan c).state = .placing) :
    Granted t := ⟨by simp [hg], fun c => by rcases hc c with h | h <;> simp [hg, h]⟩

/-- A channel that joins the list. -/
theorem granted_append {x : State} {c : Chan} {ch : Channel} (hi : Granted s) (hx : x.channels = s.channels)
    (hg : x.grants = s.grants ++ [c]) (hc : (s.chan c).state = .claiming)
    (hch : ch.state = .held ∨ ch.state = .releasing) : Granted (x.setChan c ch) := by
  have hg' : (x.setChan c ch).grants = s.grants ++ [c] := hg
  have hnot : c ∉ s.grants := by rw [hi.2 c]; simp [hc]
  refine ⟨?_, fun d => ?_⟩
  · rw [hg', List.nodup_append]
    exact ⟨hi.1, by simp, fun a ha b hb h => hnot (by simp at hb; rwa [h, hb] at ha)⟩
  · rw [hg', State.setChan_chan]
    split
    · next h => simp [h, hch]
    · next h => rw [State.chan_congr hx, ← hi.2 d]; simp [h]

/-- A channel that leaves the list. -/
theorem granted_filter {x : State} {c : Chan} {ch : Channel} (hi : Granted s) (hx : x.channels = s.channels)
    (hg : x.grants = s.grants.filter (· != c)) (hch : ch.state = .idle ∨ ch.state = .placing) :
    Granted (x.setChan c ch) := by
  have hg' : (x.setChan c ch).grants = s.grants.filter (· != c) := hg
  refine ⟨hg' ▸ hi.1.filter _, fun d => ?_⟩
  rw [hg', State.setChan_chan]
  split
  · next h => rcases hch with hch | hch <;> simp [h, hch]
  · next h => rw [State.chan_congr hx, ← hi.2 d]; simp [h]

/-- A dropped channel is IDLE, any other one was IDLE or PLACING. -/
theorem Dropped.states {q : ChanState → Bool} (h : Dropped q s t) (hq : ∀ st, q st = false → st = .idle ∨ st = .placing)
    (c : Chan) : (t.chan c).state = .idle ∨ (t.chan c).state = .placing := by
  rw [h.1 c]
  split
  · exact .inl rfl
  · next hn => exact hq (s.chan c).state (by simpa using hn)

theorem Move.granted {k : MoveKind} (m : Move s₀ k s t) (h₀ : PlacementServes s₀) (hi : Granted s) : Granted t := by
  cases m with
  | port ht => rw [ht]; exact hi
  | outcome c => exact granted_setChan hi rfl rfl Iff.rfl
  | leaveDone ht hd =>
    exact granted_empty (by rw [ht]; rfl) (hd.states fun st h => by cases st <;> simp [ChanState.dropsAtLeave] at h ⊢)
  | halt _ _ _ ht hd =>
    exact granted_empty (by rw [ht]; rfl) (hd.states fun st h => .inl (by simpa using h))
  | reset ht =>
    have hch : t.channels = Vector.replicate 8 Channel.reset := by rw [ht]; rfl
    refine granted_empty (by rw [ht]; rfl) fun c => ?_
    rw [State.chan_eq, hch, get_replicate]
    exact .inl rfl
  | leaveStarted => exact granted_of hi rfl fun c => by rw [leaveStarted_chan]
  | dropPlacing c hc => exact granted_setChan hi rfl rfl (by simp [Channel.toIdle, hc h₀])
  | withdraw c l q ws hc => exact granted_setChan hi rfl rfl (by simp [Channel.toIdle, hc])
  | clearMarks c => exact granted_setChan hi rfl rfl Iff.rfl
  | mark c => exact granted_setChan hi rfl rfl Iff.rfl
  | shedStarted =>
    refine granted_of hi rfl fun c => ?_
    rw [shedStarted_chan]
    split <;> exact Iff.rfl
  | shedOver => exact granted_of hi rfl fun c => by rw [State.cancelShed_chan]
  | slice => exact hi
  | frame f =>
    refine granted_of hi (by rw [nextFrame_eq]) fun c => ?_
    rw [nextFrame_chan]
    split <;> exact Iff.rfl
  | ownGranted c n w wt hj hc => exact granted_append hi rfl rfl hc (.inl rfl)
  | ownGrantedReleasing c n w wt hj hc =>
    rw [ownGrantedReleasing_eq]
    exact granted_append (x := { s with
      book := _, unit := _, grants := _, txQueue := _ }) hi rfl rfl hc (.inr rfl)
  | ownVoid c n w wt hj hc => exact granted_setChan hi rfl rfl (by simp [Channel.toIdle, hc])
  | ownVoidAgain c n w wt hj hc => exact granted_setChan hi rfl rfl (by simp [Channel.placeAgain, hc])
  | ownReleased c => exact granted_filter hi rfl rfl (.inl rfl)
  | ownYielded c => exact granted_filter hi rfl rfl (.inr rfl)
  | request c mode start len hs hc => exact granted_setChan hi rfl rfl (by simp [hc])
  | number c => exact granted_setChan hi rfl rfl Iff.rfl
  | place c w b hs hc => exact granted_setChan hi rfl rfl (by simp [hc h₀])
  | giveBack c again hs hc =>
    rw [givenBack_eq c again hs]
    exact granted_setChan (x := { s with
      book := _, driven := _, txQueue := _ }) hi rfl rfl (by simp [hc])
  | _ => exact hi

/-! ### O8 -/

/-- Settles O8: every move keeps the channel records and the grant list. -/
theorem channelsAndGrantListStayLegal : Obligations.ChannelsAndGrantListStayLegal :=
  ⟨kept_of_moves (fun _ _ _ _ m h₀ hi => ⟨m.records h₀.2 hi.2 hi.1, m.placementServes hi.2⟩) fun _ _ hi => hi,
    kept_of_moves (fun _ _ _ _ m h₀ hi =>
      have h := m.granted h₀.2.2 ⟨hi.1, hi.2.1⟩
      ⟨h.1, h.2, m.placementServes hi.2.2⟩) fun _ _ hi => hi⟩

end Sys2Proof.Machine
end

section
/-! PROOFS. The outputs (R67, R147). -/

namespace Sys2Proof.Machine

open Sys2Proof.Safety

variable {s₀ s t : State}

/-- Every asserted output is inside its condition (R67). -/
def OutputsMayDrive (s : State) : Prop := ∀ c : Chan, s.driven.get c = true → MayDrive (s.chan c) s.timer.slice

/-- The Frame Timer runs in the running states alone, and off the line every output is deasserted (R38, R147). -/
def DarkWhenOff (s : State) : Prop :=
  (s.timer.running = true → s.station.running = true) ∧
    (s.station.running = false → ∀ c : Chan, s.driven.get c = false)

theorem outputs_dark (h : t.driven = Vector.replicate 8 false) : OutputsMayDrive t := fun c hc => by
  rw [h, get_replicate] at hc
  cases hc

theorem outputs_evaluated {b : Chan → Bool}
    (h : ∀ c, t.driven.get c = (b c && (t.chan c).drives t.timer.slice)) : OutputsMayDrive t := fun c hc => by
  rw [h, Bool.and_eq_true] at hc
  exact (Channel.drives_iff _ _).1 hc.2

/-- One channel record that does not drive, or one that drives as before, is put in. -/
theorem outputs_setChan {x : State} {c : Chan} {ch : Channel} (hi : OutputsMayDrive s) (hx : x.channels = s.channels)
    (hd : x.driven = s.driven) (ht : x.timer = s.timer)
    (hc : MayDrive (s.chan c) s.timer.slice → MayDrive ch s.timer.slice) : OutputsMayDrive (x.setChan c ch) :=
  fun d hdr => by
    have h : s.driven.get d = true := hd ▸ hdr
    have hsl : (x.setChan c ch).timer.slice = s.timer.slice := by rw [State.setChan_timer, ht]
    rw [State.setChan_chan, hsl]
    split
    · next he => subst he; exact hc (hi d h)
    · rw [State.chan_congr hx]; exact hi d h

theorem outputs_of {t : State} (hi : OutputsMayDrive s) (hd : t.driven = s.driven) (ht : t.timer.slice = s.timer.slice)
    (hc : ∀ c, MayDrive (s.chan c) s.timer.slice → MayDrive (t.chan c) s.timer.slice) : OutputsMayDrive t :=
  fun c h => by rw [ht]; exact hc c (hi c (hd ▸ h))

theorem Move.outputs {k : MoveKind} (m : Move s₀ k s t) (h₀ : PlacementServes s₀) (hoff : DarkWhenOff s)
    (hi : OutputsMayDrive s) : OutputsMayDrive t := by
  -- a channel that is not HELD drives nothing
  have notHeld : ∀ {c : Chan} {ch : Channel}, (s.chan c).state ≠ .held →
      MayDrive (s.chan c) s.timer.slice → MayDrive ch s.timer.slice := fun hn h => absurd h.1 hn
  cases m with
  | port ht => rw [ht]; exact hi
  | outcome c => exact outputs_setChan hi rfl rfl rfl id
  | join hs =>
    intro c hc
    have hc' : s.driven.get c = true := hc
    rw [hoff.2 (by rw [hs]; rfl) c] at hc'
    cases hc'
  | leaveDone ht => exact outputs_dark (by rw [ht]; rfl)
  | halt _ _ _ ht => exact outputs_dark (by rw [ht]; rfl)
  | reset ht => exact outputs_dark (by rw [ht]; rfl)
  | leaveStarted => exact outputs_dark rfl
  | dropPlacing c hc => exact outputs_setChan hi rfl rfl rfl (notHeld (by simp [hc h₀]))
  | withdraw c l q ws hc => exact outputs_setChan hi rfl rfl rfl (notHeld (by simp [hc]))
  | clearMarks c => exact outputs_setChan hi rfl rfl rfl id
  | mark c => exact outputs_setChan hi rfl rfl rfl id
  | shedStarted => exact outputs_evaluated fun c => shedStarted_driven c
  | shedOver =>
    refine outputs_of hi rfl rfl fun c h => ?_
    rw [State.cancelShed_chan]
    exact ⟨h.1, h.2.1, rfl, h.2.2.2⟩
  | slice => exact outputs_evaluated (b := fun _ => true) fun c => (State.redrive_driven _ c).trans (Bool.true_and _).symm
  | frame f =>
    refine outputs_evaluated (b := fun _ => true) fun c => ?_
    have h0 : (s.nextFrame f).timer.slice = 0 := by rw [nextFrame_eq]
    rw [nextFrame_driven, h0, Bool.true_and]
  | ownGranted c n w wt hj hc => exact outputs_setChan hi rfl rfl rfl (notHeld (by simp [hc]))
  | ownGrantedReleasing c n w wt hj hc =>
    rw [ownGrantedReleasing_eq]
    exact outputs_setChan (x := { s with book := _, unit := _, grants := _, txQueue := _ }) hi rfl rfl rfl
      (notHeld (by simp [hc]))
  | ownVoid c n w wt hj hc => exact outputs_setChan hi rfl rfl rfl (notHeld (by simp [hc]))
  | ownVoidAgain c n w wt hj hc => exact outputs_setChan hi rfl rfl rfl (notHeld (by simp [hc]))
  | ownReleased c n hj hc => exact outputs_setChan hi rfl rfl rfl (notHeld (by simp [hc]))
  | ownYielded c n hj hc => exact outputs_setChan hi rfl rfl rfl (notHeld (by simp [hc]))
  | request c mode start len hs hc => exact outputs_setChan hi rfl rfl rfl (notHeld (by simp [hc]))
  | number c => exact outputs_setChan hi rfl rfl rfl id
  | place c w b hs hc => exact outputs_setChan hi rfl rfl rfl (notHeld (by simp [hc h₀]))
  | giveBack c again hs =>
    have hsl : (s.givenBack c again).timer = s.timer := by rw [givenBack_eq c again hs]
    exact outputs_evaluated fun d => by rw [hsl]; exact givenBack_driven c d again
  | _ => exact hi

theorem Move.darkWhenOff {k : MoveKind} (m : Move s₀ k s t) (hi : DarkWhenOff s) : DarkWhenOff t := by
  have running : ∀ {x : State}, x.station.running = true → DarkWhenOff x := fun h =>
    ⟨fun _ => h, fun hn => by rw [h] at hn; cases hn⟩
  have off : ∀ {x : State}, x.timer.running = false → x.driven = Vector.replicate 8 false → DarkWhenOff x :=
    fun ht hd => ⟨fun h => (by rw [ht] at h; cases h), fun _ c => by rw [hd, get_replicate]⟩
  cases m with
  | port ht => rw [ht]; exact hi
  | join => exact running rfl
  | unjoin hs => exact ⟨fun h => (by have := hi.1 h; rw [hs] at this; cases this), fun _ => hi.2 (by rw [hs]; rfl)⟩
  | leaveDone ht => exact off (by rw [ht]; rfl) (by rw [ht]; rfl)
  | halt _ _ _ ht => exact off (by rw [ht]; rfl) (by rw [ht]; rfl)
  | reset ht => exact off (by rw [ht]; rfl) (by rw [ht]; rfl)
  | desync => exact running rfl
  | rejoin => exact running rfl
  | leaveStarted => exact running rfl
  | shedStarted hs => exact running (StationState.running_of_online hs)
  | slice hr => exact running (hi.1 hr)
  | hold hs => exact running (StationState.running_of_online hs)
  | frame f hr =>
    have h : (s.nextFrame f).station = s.station := by rw [nextFrame_eq]
    exact running (by rw [h]; exact hr.elim hi.1 id)
  | listened => exact running rfl
  | grantSweep => exact hi
  | ownGrantedReleasing c => rw [ownGrantedReleasing_eq]; exact hi
  | giveBack c again hs =>
    have h : (s.givenBack c again).station = s.station := by rw [givenBack_eq c again hs]
    exact running (by rw [h]; exact StationState.running_of_online hs)
  | _ => exact hi

/-! ### O7 -/

/-- Settles O7: every move keeps each asserted output inside its condition. -/
theorem outputsStayInTheirWindows : Obligations.OutputsStayInTheirWindows := by
  refine kept_of_moves (fun s₀ k s t m h₀ hi => ?_) fun _ _ hi => hi
  obtain ⟨hdrive, hplace, hoff⟩ := hi
  exact ⟨m.outputs h₀.2.1 hoff hdrive, m.placementServes hplace, m.darkWhenOff hoff⟩

end Sys2Proof.Machine
end

section
/-! PROOFS. The reservation table: what is where after each change (R1), and the map as the weights of the table (R5). -/

namespace Sys2Proof.Machine

open Sys2Proof.Safety

variable {s₀ s t : State} {b b' : Book} {p q : Fin 96} {n : Nat} {c : Chan} {e : Entry}

/-! ### Searching in ascending order -/

/-- A search in ascending order finds the lowest number that meets the test. -/
theorem find?_finRange_eq_some {n : Nat} {P : Fin n → Bool} {p : Fin n} :
    (List.finRange n).find? P = some p ↔ P p = true ∧ ∀ q, q < p → P q = false := by
  rw [List.find?_eq_some_iff_getElem]
  constructor
  · rintro ⟨hp, i, hi, hip, hlow⟩
    refine ⟨hp, fun q hq => ?_⟩
    have hpi : i = p.val := by simpa [Fin.ext_iff] using congrArg Fin.val hip
    simpa using hlow q.val (by rw [hpi]; exact hq)
  · rintro ⟨hp, hlow⟩
    exact ⟨hp, p.val, by simp, by simp, fun j hj => by simpa using hlow ⟨j, by omega⟩ hj⟩

theorem find?_finRange_eq_none {n : Nat} {P : Fin n → Bool} :
    (List.finRange n).find? P = none ↔ ∀ q, P q = false := by
  simp [List.find?_eq_none]

theorem Entry.isFor_iff : e.isFor n c = true ↔ e.owner = n ∧ e.chan = c := by
  simp [Entry.isFor]

theorem any_isFor_iff {o : Option Entry} : o.any (Entry.isFor n c) = true ↔ ∃ e ∈ o, e.owner = n ∧ e.chan = c := by
  cases o <;> simp [Entry.isFor_iff]

/-! ### Entries after a change -/

theorem Book.find_eq_some : b.find n c = some p ↔
    (b.entry p).any (Entry.isFor n c) = true ∧ ∀ q, q < p → (b.entry q).any (Entry.isFor n c) = false :=
  find?_finRange_eq_some

theorem Book.find_eq_none : b.find n c = none ↔ ∀ q, (b.entry q).any (Entry.isFor n c) = false :=
  find?_finRange_eq_none

theorem Book.add_eq_none : b.add e = none ↔ ∀ p, b.entry p ≠ none := by
  rw [Book.add, Option.map_eq_none_iff, Book.lowestFree, positions, find?_finRange_eq_none]
  simp [← Option.ne_none_iff_isSome]

theorem Book.add_eq_some : b.add e = some b' ↔
    ∃ p, b.entry p = none ∧ (∀ q, q < p → b.entry q ≠ none) ∧ b' = b.put p e := by
  rw [Book.add, Option.map_eq_some_iff]
  simp only [Book.lowestFree, positions, find?_finRange_eq_some, Option.isNone_iff_eq_none, Option.isNone_eq_false_iff,
    Option.isSome_iff_ne_none]
  exact ⟨fun ⟨p, ⟨h1, h2⟩, h3⟩ => ⟨p, h1, h2, h3.symm⟩, fun ⟨p, h1, h2, h3⟩ => ⟨p, ⟨h1, h2⟩, h3.symm⟩⟩

/-- With no key twice, a removal by key takes the entries for the key away and leaves every other. -/
theorem Book.dropKey_entry (hk : KeysDistinct b) :
    (b.dropKey n c).entry q = if (b.entry q).any (Entry.isFor n c) then none else b.entry q := by
  unfold Book.dropKey
  split
  · next h => rw [if_neg (by simp [Book.find_eq_none.1 h q])]
  · next p h =>
    obtain ⟨hp, -⟩ := Book.find_eq_some.1 h
    rw [Book.drop_entry]
    by_cases hq : q = p
    · rw [if_pos hq, if_pos (hq ▸ hp)]
    · rw [if_neg hq, if_neg fun hany => hq ?_]
      obtain ⟨e, he, heo, hec⟩ := any_isFor_iff.1 hp
      obtain ⟨f, hf, hfo, hfc⟩ := any_isFor_iff.1 hany
      exact hk q p f hf e he (hfo.trans heo.symm) (hfc.trans hec.symm)

/-- With no key twice, a change of state by key changes the entries for the key and leaves every other. -/
theorem Book.restateKey_entry (hk : KeysDistinct b) (st : EntryState) :
    (b.restateKey n c st).entry q =
      if (b.entry q).any (Entry.isFor n c) then (b.entry q).map (fun e => { e with state := st }) else b.entry q := by
  unfold Book.restateKey
  split
  · next h => rw [if_neg (by simp [Book.find_eq_none.1 h q])]
  · next p h =>
    obtain ⟨hp, -⟩ := Book.find_eq_some.1 h
    rw [Book.restate_entry]
    by_cases hq : q = p
    · rw [if_pos hq, if_pos (hq ▸ hp), hq]
    · rw [if_neg hq, if_neg fun hany => hq ?_]
      obtain ⟨e, he, heo, hec⟩ := any_isFor_iff.1 hp
      obtain ⟨f, hf, hfo, hfc⟩ := any_isFor_iff.1 hany
      exact hk q p f hf e he (hfo.trans heo.symm) (hfc.trans hec.symm)

theorem Book.dropOwned_entry :
    (b.dropOwned n).entry q = if (b.entry q).any (fun e => e.owner == n) then none else b.entry q := by
  have each : ∀ (ps : List (Fin 96)) (b : Book), (ps.foldl (fun b p =>
      if (b.entry p).any (fun e => e.owner == n) then b.drop p else b) b).entry q =
      if q ∈ ps ∧ (b.entry q).any (fun e => e.owner == n) = true then none else b.entry q := by
    intro ps
    induction ps with
    | nil => intro b; simp
    | cons p ps ih =>
      intro b
      rw [List.foldl_cons, ih]
      by_cases hq : q = p
      · subst hq
        by_cases ho : (b.entry q).any (fun e => e.owner == n) = true <;> simp [ho, Book.drop_entry]
      · have same : (if (b.entry p).any (fun e => e.owner == n) then b.drop p else b).entry q = b.entry q := by
          split
          · rw [Book.drop_entry, if_neg hq]
          · rfl
        rw [same]
        simp [hq]
  exact (each positions b).trans (by simp [positions])

/-! ### The map as the weights of the table -/

/-- What one position adds to the sum of a kind in one slice. -/
def entryShare (kind : Entry → Bool) (i : Nat) : Option Entry → Nat
  | some e => if kind e && e.win.covers i then e.weight else 0
  | none => 0

theorem weightOver_eq (kind : Entry → Bool) (b : Book) (i : Nat) :
    weightOver kind b i = ∑ p, entryShare kind i (b.entry p) := by
  rw [Fin.sum_univ_def]
  rfl

/-- One position changed moves the sum by the difference of its shares. -/
theorem weightOver_change (kind : Entry → Bool) (i : Nat) (hq : ∀ q, q ≠ p → b'.entry q = b.entry q) :
    weightOver kind b' i + entryShare kind i (b.entry p) = weightOver kind b i + entryShare kind i (b'.entry p) := by
  rw [weightOver_eq, weightOver_eq,
    ← Finset.add_sum_erase Finset.univ (fun p => entryShare kind i (b'.entry p)) (Finset.mem_univ p),
    ← Finset.add_sum_erase Finset.univ (fun p => entryShare kind i (b.entry p)) (Finset.mem_univ p)]
  have rest : ∑ q ∈ Finset.univ.erase p, entryShare kind i (b'.entry q) =
      ∑ q ∈ Finset.univ.erase p, entryShare kind i (b.entry q) :=
    Finset.sum_congr rfl fun q h => by rw [hq q (Finset.ne_of_mem_erase h)]
  rw [rest]
  omega

theorem entryShare_le (kind : Entry → Bool) (i : Nat) : entryShare kind i (b.entry p) ≤ weightOver kind b i := by
  rw [weightOver_eq]
  exact Finset.single_le_sum (f := fun p => entryShare kind i (b.entry p)) (fun _ _ => Nat.zero_le _)
    (Finset.mem_univ p)

/-- The share of an entry on each side, and the change of one slice's sums by an entry. -/
theorem sums_add (e : Entry) (m : Sums) (i : Nat) (hc : e.win.covers i = true) :
    (m.add e).committed = m.committed + entryShare (fun e => e.state != .claiming) i (some e) ∧
      (m.add e).tentative = m.tentative + entryShare (fun e => e.state == .claiming) i (some e) := by
  rw [Sums.add_eq]
  split <;> simp_all [entryShare]

theorem sums_sub (e : Entry) (m : Sums) (i : Nat) (hc : e.win.covers i = true) :
    (m.sub e).committed = m.committed - entryShare (fun e => e.state != .claiming) i (some e) ∧
      (m.sub e).tentative = m.tentative - entryShare (fun e => e.state == .claiming) i (some e) := by
  rw [Sums.sub_eq]
  split <;> simp_all [entryShare]

theorem entryShare_uncovered (kind : Entry → Bool) (i : Nat) (hc : e.win.covers i = false) :
    entryShare kind i (some e) = 0 := by
  simp [entryShare, hc]

theorem mapMatches_empty : MapMatches Book.empty := fun i => by
  have none : ∀ p, Book.empty.entry p = none := fun p => get_replicate _ p
  have sums : Book.empty.map.get i = ⟨0, 0⟩ := get_replicate _ i
  simp [weightOver_eq, none, sums, entryShare]

theorem mapMatches_put (h : MapMatches b) (hp : b.entry p = none) : MapMatches (b.put p e) := fun i => by
  have other : ∀ q, q ≠ p → (b.put p e).entry q = b.entry q := fun q hq => by rw [Book.put_entry, if_neg hq]
  have self : (b.put p e).entry p = some e := by rw [Book.put_entry, if_pos rfl]
  have hc := weightOver_change (fun e => e.state != .claiming) i.val other
  have ht := weightOver_change (fun e => e.state == .claiming) i.val other
  obtain ⟨h1, h2⟩ := h i
  rw [self, hp] at hc ht
  simp only [show ∀ k, entryShare k i.val none = 0 from fun _ => rfl, Nat.add_zero] at hc ht
  rw [Book.put_map_get, hc, ht, ← h1, ← h2]
  split
  · next hw => exact sums_add e _ _ hw
  · next hw =>
    simp [entryShare_uncovered _ _ (by simpa using hw)]

theorem mapMatches_drop (h : MapMatches b) : MapMatches (b.drop p) := by
  cases hp : b.entry p with
  | none => simpa [Book.drop, hp] using h
  | some e =>
    intro i
    have other : ∀ q, q ≠ p → (b.drop p).entry q = b.entry q := fun q hq => by rw [Book.drop_entry, if_neg hq]
    have self : (b.drop p).entry p = none := by rw [Book.drop_entry, if_pos rfl]
    have hc := weightOver_change (fun e => e.state != .claiming) i.val other
    have ht := weightOver_change (fun e => e.state == .claiming) i.val other
    obtain ⟨h1, h2⟩ := h i
    rw [self, hp] at hc ht
    simp only [show ∀ k, entryShare k i.val none = 0 from fun _ => rfl, Nat.add_zero] at hc ht
    rw [Book.drop_map_get b p i e hp]
    split
    · next hw =>
      obtain ⟨a1, a2⟩ := sums_sub e (b.map.get i) _ hw
      rw [a1, a2]
      omega
    · next hw =>
      rw [entryShare_uncovered _ _ (by simpa using hw)] at hc ht
      omega

theorem mapMatches_restate (h : MapMatches b) (st : EntryState) : MapMatches (b.restate p st) := by
  cases hp : b.entry p with
  | none => simpa [Book.restate, hp] using h
  | some e =>
    intro i
    have other : ∀ q, q ≠ p → (b.restate p st).entry q = b.entry q := fun q hq => by
      rw [Book.restate_entry, if_neg hq]
    have self := b.restate_entry_self p e st hp
    have hc := weightOver_change (fun e => e.state != .claiming) i.val other
    have ht := weightOver_change (fun e => e.state == .claiming) i.val other
    have lc := entryShare_le (b := b) (p := p) (fun e => e.state != .claiming) i.val
    have lt := entryShare_le (b := b) (p := p) (fun e => e.state == .claiming) i.val
    obtain ⟨h1, h2⟩ := h i
    rw [hp] at lc lt
    rw [self, hp] at hc ht
    by_cases hside : e.state.tentative = st.tentative
    · have same : (e.state == .claiming) = (st == .claiming) := by
        rw [Bool.eq_iff_iff, beq_iff_eq, beq_iff_eq, ← EntryState.tentative_iff, ← EntryState.tentative_iff, hside]
      have hdiff : (e.state != .claiming) = (st != .claiming) := congrArg not same
      rw [b.restate_map_of_same_side p e st hp hside]
      simp only [entryShare, same, hdiff] at hc ht
      omega
    · rw [b.restate_map_get_of_new_side p i e st hp hside]
      split
      · next hw =>
        obtain ⟨a1, a2⟩ := sums_add { e with state := st } ((b.map.get i).sub e) _ hw
        obtain ⟨a3, a4⟩ := sums_sub e (b.map.get i) _ hw
        rw [a1, a2, a3, a4]
        omega
      · next hw =>
        have hw' : e.win.covers i.val = false := by simpa using hw
        rw [entryShare_uncovered _ _ hw', entryShare_uncovered (e := { e with state := st }) _ _ hw'] at hc ht
        omega

theorem mapMatches_dropKey (h : MapMatches b) : MapMatches (b.dropKey n c) := by
  unfold Book.dropKey
  split
  · exact h
  · exact mapMatches_drop h

theorem mapMatches_restateKey (h : MapMatches b) (st : EntryState) : MapMatches (b.restateKey n c st) := by
  unfold Book.restateKey
  split
  · exact h
  · exact mapMatches_restate h st

theorem mapMatches_add (h : MapMatches b) (hb : b.add e = some b') : MapMatches b' := by
  obtain ⟨p, hp, -, rfl⟩ := Book.add_eq_some.1 hb
  exact mapMatches_put h hp

theorem mapMatches_dropOwned (h : MapMatches b) : MapMatches (b.dropOwned n) := by
  unfold Book.dropOwned
  generalize positions = ps
  induction ps generalizing b with
  | nil => exact h
  | cons p ps ih =>
    rw [List.foldl_cons]
    refine ih ?_
    split
    · exact mapMatches_drop h
    · exact h

theorem mapMatches_addListed {ls : List Listed} (h : MapMatches b) : MapMatches (addListed n ls b).book := by
  induction ls generalizing b with
  | nil => exact h
  | cons l ls ih =>
    unfold addListed
    split
    · exact h
    · next b' hb => exact ih (mapMatches_add h hb)

/-! ### O4 -/

theorem Move.mapMatches {k : MoveKind} (m : Move s₀ k s t) (hi : MapMatches s.book) : MapMatches t.book := by
  cases m with
  | port ht => rw [ht]; exact hi
  | leaveDone ht => rw [ht]; exact mapMatches_empty
  | halt _ _ _ ht => rw [ht]; exact mapMatches_empty
  | reset ht => rw [ht]; exact mapMatches_empty
  | withdraw => exact mapMatches_dropKey hi
  | frame f => rw [nextFrame_eq]; exact hi
  | ownGranted => exact mapMatches_restateKey hi .held
  | ownGrantedReleasing =>
    rw [ownGrantedReleasing_eq]
    exact mapMatches_restateKey (mapMatches_restateKey hi .held) .releasing
  | ownVoid => exact mapMatches_dropKey hi
  | ownVoidAgain => exact mapMatches_dropKey hi
  | ownReleased => exact mapMatches_dropKey hi
  | ownYielded => exact mapMatches_dropKey hi
  | removeStation n b hc hp hb =>
    have left : MapMatches b := by rw [hb]; exact mapMatches_dropOwned hi
    exact left
  | heardDrop => exact mapMatches_dropKey hi
  | heardAdd n c w wt b hj hp hb => exact mapMatches_add (mapMatches_dropKey hi) hb
  | heardAdopt n budget ls b hj hp hb => rw [hb]; exact mapMatches_addListed (mapMatches_dropOwned hi)
  | place c w b hs hc hj hb => exact mapMatches_add hi hb
  | giveBack c again hs => rw [givenBack_eq c again hs]; exact mapMatches_restateKey hi .releasing
  | _ => exact hi

/-- Settles O4: every entry change moves the map with the weights. -/
theorem mapAlwaysMatchesTheTable : Obligations.MapAlwaysMatchesTheTable :=
  kept_of_moves (fun _ _ _ _ m _ hi => m.mapMatches hi) fun _ _ hi => hi

end Sys2Proof.Machine
end

section
/-! PROOFS. The transmit and the receive queue (R80 to R82, R91 to R93). -/

namespace Sys2Proof.Machine

open Sys2Proof.Safety

variable {s₀ s t : State} {q r : List TxItem}

/-! ### The order of the transmit queue -/

/-- The order of the transmit queue, with the kinds that come once (R81, R82). -/
def QueueLegal (q : List TxItem) : Prop :=
  q.Pairwise (fun i j => rank i ≤ rank j) ∧ q.countP (fun i => i.body.isSync) ≤ 1 ∧
    q.countP (fun i => i.body.isShed) ≤ 1 ∧ q.countP (fun i => i.body.isSummary) ≤ 1 ∧
    q.countP (fun i => i.body.isLeave) ≤ 1

/-- One item in an attempt at most, and one exactly while the line carries an attempt (R80). -/
def AttemptMatches (q : List TxItem) (own : Bool) : Prop :=
  q.countP (fun i => i.inAttempt) ≤ 1 ∧ q.any (fun i => i.inAttempt) = own

theorem rank_le_two (i : TxItem) : rank i ≤ 2 := by
  unfold rank
  split
  · omega
  · split <;> omega

theorem rank_eq_zero {i : TxItem} : rank i = 0 ↔ i.body.isSync = true := by
  unfold rank
  split
  · next h => simp [h]
  · next h => split <;> simp [h]

theorem queueLegal_nil : QueueLegal [] := by simp [QueueLegal]

theorem queueLegal_sublist (h : QueueLegal q) (hs : r.Sublist q) : QueueLegal r := by
  obtain ⟨h1, h2, h3, h4, h5⟩ := h
  exact ⟨h1.sublist hs, (hs.countP_le).trans h2, (hs.countP_le).trans h3, (hs.countP_le).trans h4,
    (hs.countP_le).trans h5⟩

theorem not_present_iff {p : TxBody → Bool} : present p q = false ↔ q.countP (fun i => p i.body) = 0 := by
  rw [List.countP_eq_zero]
  simp [present]

/-- An item joins at the tail: it comes after the SYNC and the SHED, and is of a kind that may come more than once or is
not present. -/
theorem queueLegal_placeTail {b : TxBody} (h : QueueLegal q) (h0 : b.isSync = false) (h1 : b.isShed = false)
    (h2 : b.isSummary = true → present TxBody.isSummary q = false)
    (h3 : b.isLeave = true → present TxBody.isLeave q = false) : QueueLegal (placeTail b q) := by
  obtain ⟨o, c1, c2, c3, c4⟩ := h
  have last : rank (.new b) = 2 := by simp [rank, TxItem.new, h0, h1]
  simp only [QueueLegal, placeTail, List.countP_append, List.countP_singleton, TxItem.new, h0, h1]
  refine ⟨List.pairwise_append.2 ⟨o, List.pairwise_singleton _ _, fun i _ j hj => ?_⟩, by simpa using c1,
    by simpa using c2, ?_, ?_⟩
  · simp only [List.mem_singleton] at hj
    rw [hj]
    exact (rank_le_two i).trans_eq last.symm
  · cases hb : b.isSummary
    · simpa using c3
    · simp [not_present_iff.1 (h2 hb)]
  · cases hb : b.isLeave
    · simpa using c4
    · simp [not_present_iff.1 (h3 hb)]

theorem queueLegal_placeSummary (h : QueueLegal q) : QueueLegal (placeSummary q) := by
  unfold placeSummary
  split
  · exact h
  · next hp => exact queueLegal_placeTail h rfl rfl (fun _ => by simpa using hp) (fun h => nomatch h)

theorem queueLegal_placeLeave (h : QueueLegal q) : QueueLegal (placeLeave q) := by
  unfold placeLeave
  split
  · exact h
  · next hp => exact queueLegal_placeTail h rfl rfl (fun h => nomatch h) (fun _ => by simpa using hp)

theorem queueLegal_placeSync (f : Nat) (h : QueueLegal q) : QueueLegal (placeSync f q) := by
  obtain ⟨o, c1, c2, c3, c4⟩ := h
  unfold placeSync
  split
  · exact ⟨o, c1, c2, c3, c4⟩
  · next hp =>
    have first : rank (.new (.sync f)) = 0 := rfl
    refine ⟨List.pairwise_cons.2 ⟨fun i _ => first ▸ Nat.zero_le _, o⟩, ?_, by simpa [TxItem.new, TxBody.isShed] using c2,
      by simpa [TxItem.new, TxBody.isSummary] using c3, by simpa [TxItem.new, TxBody.isLeave] using c4⟩
    have := not_present_iff.1 (by simpa using hp : present TxBody.isSync q = false)
    rw [List.countP_cons, this]
    exact Nat.le_refl 1

/-- Only a SYNC stands before a SHED: an item of a queue in order that follows another item has rank 1 at least where there is
one SYNC at most. -/
theorem rank_tail {i j : TxItem} (h : QueueLegal (i :: q)) (hj : j ∈ q) : 1 ≤ rank j := by
  obtain ⟨o, c1, -⟩ := h
  by_contra hlt
  have hj0 : rank j = 0 := by omega
  have hi0 : rank i = 0 := by have := (List.pairwise_cons.1 o).1 j hj; omega
  have hsync := rank_eq_zero.1 hj0
  have hisync := rank_eq_zero.1 hi0
  have two : 0 < q.countP (fun i => i.body.isSync) := List.countP_pos_iff.2 ⟨j, hj, hsync⟩
  rw [List.countP_cons, if_pos hisync] at c1
  omega

theorem queueLegal_placeShed (h : QueueLegal q) : QueueLegal (placeShed q) := by
  have shedRank : rank (.new .shed) = 1 := rfl
  unfold placeShed
  split
  · exact h
  · next hp =>
    have none := not_present_iff.1 (by simpa using hp : present TxBody.isShed q = false)
    cases q with
    | nil => simp [QueueLegal, TxItem.new, TxBody.isSync, TxBody.isShed, TxBody.isSummary, TxBody.isLeave]
    | cons i q =>
      obtain ⟨o, c1, c2, c3, c4⟩ := h
      obtain ⟨oi, oq⟩ := List.pairwise_cons.1 o
      have counts : ∀ r : List TxItem, r.Perm (.new .shed :: i :: q) → r.Pairwise (fun i j => rank i ≤ rank j) →
          QueueLegal r := fun r hr ho => by
        refine ⟨ho, ?_, ?_, ?_, ?_⟩ <;> rw [hr.countP_eq, List.countP_cons]
        · simpa [TxItem.new, TxBody.isSync] using c1
        · rw [none]
          exact Nat.le_refl 1
        · simpa [TxItem.new, TxBody.isSummary] using c3
        · simpa [TxItem.new, TxBody.isLeave] using c4
      dsimp only
      split
      · next hi =>
        refine counts _ (List.Perm.swap _ _ _) (List.pairwise_cons.2 ⟨fun j _ => ?_, List.pairwise_cons.2 ⟨fun j hj => ?_, oq⟩⟩)
        · simp [rank, hi]
        · exact shedRank ▸ rank_tail ⟨o, c1, c2, c3, c4⟩ hj
      · next hi =>
        have one : 1 ≤ rank i := Nat.one_le_iff_ne_zero.2 fun h => hi (rank_eq_zero.1 h)
        refine counts _ (List.Perm.refl _) (List.pairwise_cons.2 ⟨fun j hj => ?_, o⟩)
        rw [shedRank]
        rcases List.mem_cons.1 hj with rfl | hj
        · exact one
        · exact rank_tail ⟨o, c1, c2, c3, c4⟩ hj

/-- Items that keep their bodies keep the order. -/
theorem queueLegal_map {f : TxItem → TxItem} (hf : ∀ i, (f i).body = i.body) (h : QueueLegal q) :
    QueueLegal (q.map f) := by
  have hr : ∀ i, rank (f i) = rank i := fun i => by simp [rank, hf]
  simpa [QueueLegal, List.pairwise_map, List.countP_map, Function.comp_def, hr, hf] using h

theorem queueLegal_keepAttempt (n : Nat) (h : QueueLegal q) : QueueLegal (keepAttempt n q) :=
  queueLegal_map (fun i => by split <;> rfl) h

/-! ### The item in an attempt -/

theorem attemptMatches_dropAttempt : AttemptMatches (dropAttempt q) false := by
  have none : (dropAttempt q).countP (fun i => i.inAttempt) = 0 := by
    simp [List.countP_eq_zero, dropAttempt]
  exact ⟨none ▸ Nat.zero_le _, by simp [dropAttempt]⟩

theorem attemptMatches_keepAttempt (n : Nat) : AttemptMatches (keepAttempt n q) false := by
  have none : ∀ i ∈ keepAttempt n q, i.inAttempt = false := fun i hi => by
    obtain ⟨j, -, rfl⟩ := List.mem_map.1 hi
    split
    · rfl
    · next h => simpa using h
  have zero : (keepAttempt n q).countP (fun i => i.inAttempt) = 0 :=
    List.countP_eq_zero.2 fun i hi => by simp [none i hi]
  exact ⟨zero ▸ Nat.zero_le _, by simpa [List.any_eq_false] using none⟩

theorem attemptMatches_withdrawItems {p : TxBody → Bool} {own : Bool} (h : AttemptMatches q own) :
    AttemptMatches (withdrawItems p q) own := by
  refine ⟨(List.filter_sublist.countP_le).trans h.1, ?_⟩
  rw [← h.2, withdrawItems, List.any_filter]
  exact congrArg q.any (funext fun i => by cases i.inAttempt <;> simp)

theorem attemptMatches_placeTail {b : TxBody} {own : Bool} (h : AttemptMatches q own) :
    AttemptMatches (placeTail b q) own := by
  simpa [AttemptMatches, placeTail, TxItem.new, List.countP_append] using h

theorem attemptMatches_placeSummary {own : Bool} (h : AttemptMatches q own) : AttemptMatches (placeSummary q) own := by
  unfold placeSummary
  split
  · exact h
  · exact attemptMatches_placeTail h

theorem attemptMatches_placeLeave {own : Bool} (h : AttemptMatches q own) : AttemptMatches (placeLeave q) own := by
  unfold placeLeave
  split
  · exact h
  · exact attemptMatches_placeTail h

theorem attemptMatches_placeSync {own : Bool} (f : Nat) (h : AttemptMatches q own) :
    AttemptMatches (placeSync f q) own := by
  unfold placeSync
  split
  · exact h
  · simpa [AttemptMatches, TxItem.new, List.countP_cons] using h

theorem attemptMatches_placeShed {own : Bool} (h : AttemptMatches q own) : AttemptMatches (placeShed q) own := by
  unfold placeShed
  split
  · exact h
  · split
    · split <;> simpa [AttemptMatches, TxItem.new, List.countP_cons] using h
    · simpa [AttemptMatches, TxItem.new, List.countP_cons] using h

theorem isOwn_resting {p : LinePhase} (h : p.resting) : p.isOwn = false := by
  rcases h with rfl | rfl | rfl <;> rfl

/-! ### Every move keeps them -/

/-- Off the line the queue is empty and the line quiet (R96, R99). -/
def SilentWhenOff (s : State) : Prop := s.station.running = false → s.txQueue = [] ∧ s.line = LineInterface.quiet

theorem transmitLegal_iff : TransmitLegal s ↔
    QueueLegal s.txQueue ∧ AttemptMatches s.txQueue s.line.phase.isOwn ∧ SilentWhenOff s := by
  simp only [TransmitLegal, QueueLegal, AttemptMatches, SilentWhenOff, and_assoc]

/-- A running station: only the queue and the attempt count. -/
theorem transmitLegal_running (hq : QueueLegal t.txQueue) (ha : AttemptMatches t.txQueue t.line.phase.isOwn)
    (hr : t.station.running = true) : TransmitLegal t :=
  transmitLegal_iff.2 ⟨hq, ha, fun h => by rw [hr] at h; cases h⟩

theorem transmitLegal_off (hq : t.txQueue = []) (hl : t.line = LineInterface.quiet) : TransmitLegal t :=
  transmitLegal_iff.2 ⟨hq ▸ queueLegal_nil, by rw [hq, hl]; exact ⟨Nat.zero_le _, rfl⟩, fun _ => ⟨hq, hl⟩⟩

theorem Move.transmitLegal {k : MoveKind} (m : Move s₀ k s t) (h₀ : TransmitLegal s₀) (hi : TransmitLegal s) :
    TransmitLegal t := by
  have kept := hi
  obtain ⟨hq, ha, hoff⟩ := transmitLegal_iff.1 hi
  have attempting : ∀ {x : State}, SilentWhenOff x → x.line.phase.isOwn = true → x.station.running = true :=
    fun {x} hx hown => by
      by_contra h
      rw [(hx (by simpa using h)).2] at hown
      cases hown
  have own : s.line.phase.isOwn = true → s.station.running = true := attempting hoff
  have online := @StationState.running_of_online s.station
  have dropped : QueueLegal (dropAttempt s.txQueue) := queueLegal_sublist hq List.filter_sublist
  have released : ∀ {l : LineInterface}, l.phase.resting → AttemptMatches (dropAttempt s.txQueue) l.phase.isOwn :=
    fun h => by rw [isOwn_resting h]; exact attemptMatches_dropAttempt
  cases m with
  | port ht => rw [ht]; exact kept
  | join hs =>
    obtain ⟨h1, h2⟩ := hoff (by rw [hs]; rfl)
    exact transmitLegal_off h1 rfl
  | unjoin hs =>
    obtain ⟨h1, h2⟩ := hoff (by rw [hs]; rfl)
    exact transmitLegal_off h1 h2
  | leaveDone ht => rw [ht]; exact transmitLegal_off rfl rfl
  | halt _ _ _ ht => rw [ht]; exact transmitLegal_off rfl rfl
  | reset ht => rw [ht]; exact transmitLegal_off rfl rfl
  | desync hs => exact transmitLegal_running hq ha rfl
  | rejoin hs => exact transmitLegal_running hq ha rfl
  | leaveStarted hs =>
    exact transmitLegal_running (queueLegal_placeLeave (queueLegal_sublist hq List.filter_sublist))
      (attemptMatches_placeLeave (attemptMatches_withdrawItems ha)) rfl
  | withdraw c l q ws hc hw =>
    cases hw with
    | asked => exact kept
    | leaving => exact kept
    | queued h =>
      refine transmitLegal_iff.2 ⟨queueLegal_sublist hq List.filter_sublist, attemptMatches_withdrawItems ha, fun hr => ?_⟩
      rw [(hoff hr).1] at h
      cases h
    | settled hown hl => exact transmitLegal_running dropped (released hl) (own hown)
  | frame f => rw [nextFrame_eq]; exact kept
  | listened hs =>
    exact transmitLegal_running (queueLegal_placeSummary hq) (attemptMatches_placeSummary ha) rfl
  | placeShed hs => exact transmitLegal_running (queueLegal_placeShed hq) (attemptMatches_placeShed ha) (online hs)
  | placeSummary hs =>
    exact transmitLegal_running (queueLegal_placeSummary hq) (attemptMatches_placeSummary ha) (online hs)
  | placeSync f hf hs =>
    exact transmitLegal_running (queueLegal_placeSync f hq) (attemptMatches_placeSync f ha) (online hs)
  | placeLeave hown hr =>
    exact transmitLegal_running (queueLegal_placeLeave hq) (attemptMatches_placeLeave ha)
      (hr (attempting (transmitLegal_iff.1 h₀).2.2 hown))
  | dropSyncs =>
    refine transmitLegal_iff.2 ⟨queueLegal_sublist hq List.filter_sublist, attemptMatches_withdrawItems ha, fun hr => ?_⟩
    obtain ⟨h1, h2⟩ := hoff hr
    exact ⟨by simp [h1, withdrawItems], h2⟩
  | resend b c st hb hc hs =>
    refine transmitLegal_running (queueLegal_placeTail hq ?_ ?_ ?_ ?_) (attemptMatches_placeTail ha) (online hs)
    all_goals
      cases b with
      | claim | release => simp [TxBody.isSync, TxBody.isShed, TxBody.isSummary, TxBody.isLeave]
      | _ => cases hb
  | lineTime a b hr => exact transmitLegal_running hq ha hr
  | line l hr ho hl =>
    have hown : l.phase.isOwn = false := by
      rcases hl with hl | hl | hl | ⟨item, hl, -⟩
      · exact isOwn_resting hl
      all_goals rw [hl]; rfl
    have running : s.station.running = true := by
      by_contra h
      have hn : s.station.running = false := by simpa using h
      rw [(hoff hn).2, hn] at hr
      simp [LineInterface.quiet] at hr
    refine transmitLegal_running hq ?_ running
    rw [hown, ← ho]
    exact ha
  | accept l item hr hp hl =>
    refine transmitLegal_running hq ?_ hr
    rw [hp] at ha
    rw [hl]
    exact ha
  | received l item hp hl =>
    have running : s.station.running = true := by
      by_contra h
      rw [(hoff (by simpa using h)).2] at hp
      cases hp
    refine transmitLegal_running hq ?_ running
    rw [hp] at ha
    rw [isOwn_resting hl]
    exact ha
  | attempt g i rest hs hp hqr =>
    have none : s.txQueue.any (fun i => i.inAttempt) = false := by
      rw [ha.2]
      rcases hp with hp | hp <;> rw [hp] <;> rfl
    rw [hqr] at none hq
    simp only [List.any_cons, Bool.or_eq_false_iff] at none
    have zero : rest.countP (fun i => i.inAttempt) = 0 := by
      rw [List.countP_eq_zero]
      simpa [List.any_eq_false] using none.2
    have marked : QueueLegal ({ i with inAttempt := true } :: rest) := by
      simpa [QueueLegal, rank, List.countP_cons] using hq
    refine transmitLegal_running marked ⟨?_, by simp [LinePhase.isOwn]⟩ (StationState.running_of_sends hs)
    simp [zero]
  | echoCell n hp =>
    refine transmitLegal_running hq ?_ (own (by rw [hp]; rfl))
    rw [hp] at ha
    exact ha
  | attemptKept l count hown hl =>
    refine transmitLegal_running (queueLegal_keepAttempt count hq) ?_ (own hown)
    rw [isOwn_resting hl]
    exact attemptMatches_keepAttempt count
  | attemptDropped l hown hl => exact transmitLegal_running dropped (released hl) (own hown)
  | attemptWithdrawn l i c w wt hown hl =>
    exact transmitLegal_running dropped (released hl) (own hown)
  | delivered l n i hp hl => exact transmitLegal_running dropped (released hl) (own (by rw [hp]; rfl))
  | ownGrantedReleasing c =>
    rw [ownGrantedReleasing_eq]
    by_cases ho : s.station.online = true
    · rw [if_pos ho]
      exact transmitLegal_running (queueLegal_placeTail hq rfl rfl (fun h => nomatch h) fun h => nomatch h)
        (attemptMatches_placeTail ha) (online ho)
    · rw [if_neg ho]
      exact kept
  | place c w b hs =>
    exact transmitLegal_running (queueLegal_placeTail hq rfl rfl (fun h => nomatch h) fun h => nomatch h)
      (attemptMatches_placeTail ha) (online hs)
  | giveBack c again hs =>
    rw [givenBack_eq c again hs]
    exact transmitLegal_running (queueLegal_placeTail hq rfl rfl (fun h => nomatch h) fun h => nomatch h)
      (attemptMatches_placeTail ha) (online hs)
  | _ => exact transmitLegal_iff.2 ⟨hq, ha, hoff⟩

/-! ### The receive queue -/

theorem reserved_resting {p : LinePhase} (hp : t.line.phase = p) (h : p.resting) : reserved t = 0 := by
  unfold reserved
  rcases h with rfl | rfl | rfl <;> rw [hp]

theorem Move.receiveLegal {k : MoveKind} (m : Move s₀ k s t) (hi : ReceiveLegal s) : ReceiveLegal t := by
  have within : s.rxQueue.length ≤ 4 := (Nat.le_add_right _ _).trans hi
  have resting : ∀ {x : State}, x.line.phase.resting → x.rxQueue = s.rxQueue → ReceiveLegal x := fun hx hq => by
    rw [ReceiveLegal, reserved_resting rfl hx, hq]
    exact within
  have empty : ∀ {x : State}, x.rxQueue = [] → x.line = LineInterface.quiet → ReceiveLegal x := fun hq hl => by
    rw [ReceiveLegal, reserved_resting (congrArg LineInterface.phase hl) (.inl rfl), hq]
    exact Nat.zero_le _
  cases m with
  | port ht => rw [ht]; exact hi
  | join => exact resting (.inl rfl) rfl
  | leaveDone ht => rw [ht]; exact empty rfl rfl
  | halt _ _ _ ht => rw [ht]; exact empty rfl rfl
  | reset ht => rw [ht]; exact empty rfl rfl
  | withdraw c l q ws hc hw =>
    cases hw with
    | settled hown hl => exact resting hl rfl
    | _ => exact hi
  | frame f => rw [nextFrame_eq]; exact hi
  | line l hr ho hl =>
    rcases hl with hl | hl | hl | ⟨item, hl, -⟩
    · exact resting hl rfl
    all_goals
      unfold ReceiveLegal reserved
      rw [hl]
      exact within
  | accept l item hr hp hl hroom =>
    unfold ReceiveLegal reserved
    rw [hl]
    exact hroom
  | received l item hp hl =>
    unfold ReceiveLegal at hi ⊢
    have h1 : reserved s = 1 := by unfold reserved; rw [hp]
    rw [reserved_resting rfl (by exact hl), List.length_append]
    rw [h1] at hi
    exact hi
  | attempt g i rest => exact within
  | echoCell n hp =>
    unfold ReceiveLegal reserved
    cases hroom : s.receiveRoom
    · exact within
    · exact of_decide_eq_true hroom
  | attemptKept l count hown hl => exact resting hl rfl
  | attemptDropped l hown hl => exact resting hl rfl
  | attemptWithdrawn l i c w wt hown hl => exact resting hl rfl
  | delivered l n i hp hl =>
    unfold ReceiveLegal at hi ⊢
    have h1 : reserved s = 1 := by unfold reserved; rw [hp]
    rw [reserved_resting rfl (by exact hl), List.length_append]
    rw [h1] at hi
    exact hi
  | grantEvaluate item rest hj hq =>
    unfold ReceiveLegal at hi ⊢
    rw [hq, List.length_cons] at hi
    exact (Nat.add_le_add_right (Nat.le_succ _) _).trans hi
  | ownGrantedReleasing c => rw [ownGrantedReleasing_eq]; exact hi
  | giveBack c again hs => rw [givenBack_eq c again hs]; exact hi
  | _ => exact hi

/-! ### O9 -/

/-- Settles O9: every move keeps the order of the transmit queue and the places of the receive queue. -/
theorem queuesKeepTheirOrderAndPlaces : Obligations.QueuesKeepTheirOrderAndPlaces :=
  ⟨kept_of_moves (fun _ _ _ _ m h₀ hi => m.transmitLegal h₀ hi) fun _ _ hi => hi,
    kept_of_moves (fun _ _ _ _ m _ hi => m.receiveLegal hi) fun _ _ hi => hi⟩

end Sys2Proof.Machine
end

section
/-! PROOFS. The peers, the notices on their way to evaluation, and the resync set (R113, R126, R130, R131). -/

namespace Sys2Proof.Machine

open Sys2Proof.Safety

variable {s₀ s t : State} {P : MoveKind → Prop}

/-! ### Notices on their way to evaluation -/

theorem mem_heardItems {i : RxItem} : i ∈ heardItems s ↔
    i.own = false ∧ (i ∈ s.rxQueue ∨ i ∈ s.line.phase.acceptedItems ∨ i ∈ jobItems s.unit.job) := by
  simp only [heardItems, receivedItems_eq, List.mem_filter, List.mem_append, Bool.not_eq_true']
  tauto

theorem heardItems_empty (h1 : t.rxQueue = []) (h2 : t.line = LineInterface.quiet) (h3 : t.unit = TableUnit.free) :
    heardItems t = [] := by
  rw [heardItems, receivedItems_eq, h1, h2, h3]
  rfl

/-- What makes a heard notice fit to be evaluated: its sender is another station, and its fields are well formed. -/
def Admissible (s : State) (i : RxItem) : Prop :=
  1 ≤ i.sender ∧ i.sender ≤ 32 ∧ i.sender ≠ s.settings.stationNumber ∧ i.notice.wellFormed = true

/-- A heard notice on its way after a move was on its way before, or has just been accepted (R92). -/
theorem Move.heardItems {k : MoveKind} (m : Move s₀ k s t) (i : RxItem) (hi : i ∈ heardItems t) :
    i ∈ heardItems s ∨ s.station.running = true ∧ Admissible s i := by
  obtain ⟨ho, hi⟩ := mem_heardItems.1 hi
  -- the three places, each within where it was
  have within : (i ∈ s.rxQueue ∨ i ∈ s.line.phase.acceptedItems ∨ i ∈ jobItems s.unit.job) →
      i ∈ Safety.heardItems s ∨ s.station.running = true ∧ Admissible s i := fun h => .inl (mem_heardItems.2 ⟨ho, h⟩)
  have none : i ∉ Safety.heardItems t → i ∈ Safety.heardItems s ∨ s.station.running = true ∧ Admissible s i :=
    fun h => absurd (mem_heardItems.2 ⟨ho, hi⟩) h
  have quieter : ∀ {l : LineInterface}, l.phase.acceptedItems = [] →
      (i ∈ s.rxQueue ∨ i ∈ l.phase.acceptedItems ∨ i ∈ jobItems s.unit.job) →
      i ∈ Safety.heardItems s ∨ s.station.running = true ∧ Admissible s i := fun hl h => by
    rw [hl] at h
    exact within (h.imp_right fun h => h.elim (fun h => nomatch h) .inr)
  have jobOver : (i ∈ s.rxQueue ∨ i ∈ s.line.phase.acceptedItems ∨ i ∈ ([] : List RxItem)) →
      i ∈ Safety.heardItems s ∨ s.station.running = true ∧ Admissible s i := fun h =>
    within (h.imp_right fun h => h.elim .inl fun h => nomatch h)
  cases m with
  | port ht => rw [ht] at hi; exact within hi
  | join => exact quieter rfl hi
  | leaveDone ht => exact none (by rw [heardItems_empty (by rw [ht]; rfl) (by rw [ht]; rfl) (by rw [ht]; rfl)]; simp)
  | halt _ _ _ ht => exact none (by rw [heardItems_empty (by rw [ht]; rfl) (by rw [ht]; rfl) (by rw [ht]; rfl)]; simp)
  | reset ht => exact none (by rw [heardItems_empty (by rw [ht]; rfl) (by rw [ht]; rfl) (by rw [ht]; rfl)]; simp)
  | withdraw c l q ws hc hw =>
    cases hw with
    | settled hown hl => exact quieter (acceptedItems_resting hl) hi
    | _ => exact within hi
  | frame f => rw [nextFrame_eq] at hi; exact within hi
  | line l hr hown hl =>
    refine quieter ?_ hi
    rcases hl with hl | hl | hl | ⟨item, hl, -⟩
    · exact acceptedItems_resting hl
    all_goals rw [hl]; rfl
  | accept l item hr hp hl hroom hown hn hw =>
    rcases hi with hi | hi | hi
    · exact within (.inl hi)
    · dsimp only at hi
      rw [hl] at hi
      obtain rfl : i = item := by simpa [LinePhase.acceptedItems] using hi
      exact .inr ⟨hr, hn.1, hn.2.1, hn.2.2, hw⟩
    · exact within (.inr (.inr hi))
  | received l item hp hl =>
    rcases hi with hi | hi | hi
    · rcases List.mem_append.1 hi with hi | hi
      · exact within (.inl hi)
      · exact within (.inr (.inl (by rw [hp]; exact hi)))
    · dsimp only at hi
      rw [acceptedItems_resting hl] at hi
      cases hi
    · exact within (.inr (.inr hi))
  | attempt g i rest hs hp hq => exact quieter (l := ⟨.sending (s.noticeOf i.body), g, 0⟩) rfl hi
  | echoCell n hp => exact quieter (l := ⟨.ownEcho n s.receiveRoom, 0, 0⟩) rfl hi
  | attemptKept l count hown hl => exact quieter (acceptedItems_resting hl) hi
  | attemptDropped l hown hl => exact quieter (acceptedItems_resting hl) hi
  | attemptWithdrawn l j c w wt hown hl => exact quieter (acceptedItems_resting hl) hi
  | delivered l n j hp hl =>
    refine quieter (acceptedItems_resting hl) (hi.imp_left fun h => ?_)
    rcases List.mem_append.1 h with h | h
    · exact h
    · obtain rfl : i = ⟨true, s.settings.stationNumber, n⟩ := by simpa using h
      cases ho
  | grantEvaluate item rest hj hq =>
    refine within ?_
    rcases hi with hi | hi | hi
    · exact .inl (by rw [hq]; exact List.mem_cons_of_mem _ hi)
    · exact .inr (.inl hi)
    · obtain rfl : i = item := by simpa [jobItems, State.startJob] using hi
      exact .inl (by rw [hq]; exact List.mem_cons_self)
  | grantSweep => exact jobOver hi
  | grantHost => exact jobOver hi
  | grantPlacement => exact jobOver hi
  | jobOver => exact jobOver hi
  | lossNoted => exact jobOver hi
  | ownGranted => exact jobOver hi
  | ownGrantedReleasing c => rw [ownGrantedReleasing_eq] at hi; exact jobOver hi
  | ownVoid => exact jobOver hi
  | ownVoidAgain => exact jobOver hi
  | ownReleased => exact jobOver hi
  | ownYielded => exact jobOver hi
  | giveBack c again hs => rw [givenBack_eq c again hs] at hi; exact within hi
  | _ => exact within hi

/-! ### A station off the line has no peers -/

/-- A move that takes a running station off the line empties the tables and the queues (R23, R116, R145). -/
theorem Move.stops {k : MoveKind} (m : Move s₀ k s t) (hs : s.station.running = true)
    (ht : t.station.running = false) : t.book = Book.empty ∧ t.peers = [] ∧ Safety.heardItems t = [] := by
  have same : t.station = s.station → t.book = Book.empty ∧ t.peers = [] ∧ Safety.heardItems t = [] := fun h => by
    rw [h, hs] at ht
    cases ht
  cases m with
  | port h => exact same (by rw [h])
  | join => cases ht
  | unjoin h => rw [h] at hs; cases hs
  | leaveDone h =>
    exact ⟨by rw [h]; rfl, by rw [h]; rfl, heardItems_empty (by rw [h]; rfl) (by rw [h]; rfl) (by rw [h]; rfl)⟩
  | halt _ _ _ h =>
    exact ⟨by rw [h]; rfl, by rw [h]; rfl, heardItems_empty (by rw [h]; rfl) (by rw [h]; rfl) (by rw [h]; rfl)⟩
  | reset h =>
    exact ⟨by rw [h]; rfl, by rw [h]; rfl, heardItems_empty (by rw [h]; rfl) (by rw [h]; rfl) (by rw [h]; rfl)⟩
  | desync => cases ht
  | rejoin => cases ht
  | leaveStarted => cases ht
  | listened => cases ht
  | frame f => exact same (by rw [nextFrame_eq])
  | ownGrantedReleasing c => exact same (by rw [ownGrantedReleasing_eq])
  | giveBack c again h => exact same (by rw [givenBack_eq c again h])
  | _ => exact same rfl

/-- A heard notice in its EVALUATE job is one on its way. -/
theorem mem_heardItems_of_job {n : Nat} {notice : Notice} (hj : s.unit.job = some (.evaluate ⟨false, n, notice⟩)) :
    ⟨false, n, notice⟩ ∈ Safety.heardItems s :=
  mem_heardItems.2 ⟨rfl, .inr (.inr (by rw [hj]; exact List.mem_cons_self))⟩

/-- No peer record comes up but for the sender of a heard notice (R114). -/
theorem Move.peers_empty {k : MoveKind} (m : Move s₀ k s t) (hp : s.peers = []) (hh : Safety.heardItems s = []) :
    t.peers = [] := by
  cases m with
  | port ht => rw [ht]; exact hp
  | leaveDone ht => rw [ht]; rfl
  | halt _ _ _ ht => rw [ht]; rfl
  | reset ht => rw [ht]; rfl
  | refill => exact List.map_eq_nil_iff.2 hp
  | leaveCleared => exact List.map_eq_nil_iff.2 hp
  | frame f => rw [nextFrame_eq]; exact hp
  | grantSweep => exact List.map_eq_nil_iff.2 hp
  | ownGrantedReleasing c => rw [ownGrantedReleasing_eq]; exact hp
  | newPeer n notice hj =>
    have := mem_heardItems_of_job hj
    rw [hh] at this
    cases this
  | report n f => exact List.map_eq_nil_iff.2 hp
  | removeStation n b => exact List.filter_eq_nil_iff.2 (by simp [hp])
  | giveBack c again hs => rw [givenBack_eq c again hs]; exact hp
  | _ => exact hp

/-- A station off the line has no peers, and no heard notice on its way. -/
def NoPeersWhenOff (s : State) : Prop := s.station.running = false → s.peers = [] ∧ Safety.heardItems s = []

theorem Move.noPeersWhenOff {k : MoveKind} (m : Move s₀ k s t) (hi : NoPeersWhenOff s) : NoPeersWhenOff t := fun ht => by
  cases hr : s.station.running with
  | true => exact (m.stops hr ht).2
  | false =>
    obtain ⟨hp, hh⟩ := hi hr
    refine ⟨m.peers_empty hp hh, List.eq_nil_iff_forall_not_mem.2 fun i hi' => ?_⟩
    rcases m.heardItems i hi' with h | ⟨h, -⟩
    · rw [hh] at h
      cases h
    · rw [hr] at h
      cases h

/-! ### The peer table -/

theorem pairwise_insertPeer {p : Peer} {ps : List Peer} (h : ps.Pairwise (fun p q => p.number < q.number))
    (hp : ∀ q ∈ ps, q.number ≠ p.number) : (insertPeer p ps).Pairwise (fun p q => p.number < q.number) := by
  induction ps with
  | nil => simp [insertPeer]
  | cons q ps ih =>
    obtain ⟨hq, hps⟩ := List.pairwise_cons.1 h
    unfold insertPeer
    split
    · next hlt =>
      refine List.pairwise_cons.2 ⟨fun r hr => ?_, h⟩
      rcases List.mem_cons.1 hr with rfl | hr
      · exact hlt
      · exact hlt.trans (hq r hr)
    · next hle =>
      refine List.pairwise_cons.2 ⟨fun r hr => ?_, ih hps fun r hr => hp r (List.mem_cons_of_mem _ hr)⟩
      rcases (mem_insertPeer p r ps).1 hr with rfl | hr
      · exact Nat.lt_of_le_of_ne (Nat.le_of_not_lt hle) (hp q List.mem_cons_self)
      · exact hq r hr

/-- The records are in order, each of another station of 1 to 32, with a silence count of 64 at most (R113). -/
def PeerTable (own : Nat) (ps : List Peer) : Prop :=
  ps.Pairwise (fun p q => p.number < q.number) ∧
    ∀ p ∈ ps, 1 ≤ p.number ∧ p.number ≤ 32 ∧ p.number ≠ own ∧ p.silence ≤ 64

/-- Records changed in place keep the table, where their numbers stay and the silence counts stay in range. -/
theorem peerTable_map {own : Nat} {ps : List Peer} {f : Peer → Peer} (h : PeerTable own ps)
    (hn : ∀ p, (f p).number = p.number) (hs : ∀ p, p.silence ≤ 64 → (f p).silence ≤ 64) : PeerTable own (ps.map f) := by
  refine ⟨?_, fun q hq => ?_⟩
  · rw [List.pairwise_map]
    simpa only [hn] using h.1
  · obtain ⟨p, hp, rfl⟩ := List.mem_map.1 hq
    obtain ⟨h1, h2, h3, h4⟩ := h.2 p hp
    rw [hn]
    exact ⟨h1, h2, h3, hs p h4⟩

theorem Move.peerTable {k : MoveKind} (m : Move s₀ k s t) (hoff : NoPeersWhenOff s)
    (hh : ∀ i ∈ Safety.heardItems s, 1 ≤ i.sender ∧ i.sender ≤ 32 ∧ i.sender ≠ s.settings.stationNumber)
    (hi : PeerTable s.settings.stationNumber s.peers) : PeerTable t.settings.stationNumber t.peers := by
  have nil : ∀ n, PeerTable n [] := fun n => ⟨List.Pairwise.nil, fun p hp => nomatch hp⟩
  cases m with
  | port ht => rw [ht]; exact hi
  | write i v hs =>
    have : s.peers = [] := (hoff (by rw [hs]; rfl)).1
    show PeerTable _ s.peers
    rw [this]
    exact nil _
  | leaveDone ht => rw [ht]; exact nil _
  | halt _ _ _ ht => rw [ht]; exact nil _
  | reset ht => rw [ht]; exact nil _
  | refill => exact peerTable_map hi (fun _ => rfl) fun _ h => h
  | leaveCleared => exact peerTable_map hi (fun _ => rfl) fun _ h => h
  | frame f => rw [nextFrame_eq]; exact hi
  | grantSweep => exact peerTable_map hi (fun _ => rfl) fun _ _ => Nat.min_le_left _ _
  | ownGrantedReleasing c => rw [ownGrantedReleasing_eq]; exact hi
  | newPeer n notice hj hp =>
    obtain ⟨h1, h32, hne⟩ := hh _ (mem_heardItems_of_job hj)
    have unknown : ∀ q ∈ s.peers, q.number ≠ n := by simpa [findPeer] using hp
    refine ⟨pairwise_insertPeer hi.1 unknown, fun q hq => ?_⟩
    rcases (mem_insertPeer _ q s.peers).1 hq with rfl | hq
    · exact ⟨h1, h32, hne, Nat.zero_le _⟩
    · exact hi.2 q hq
  | report n f hc hf =>
    refine peerTable_map hi (fun p => ?_) fun p h => ?_
    · split
      · exact (hf p).1
      · rfl
    · split
      · exact (hf p).2.1.trans h
      · exact h
  | removeStation n b => exact ⟨hi.1.filter _, fun p hp => hi.2 p (List.mem_of_mem_filter hp)⟩
  | giveBack c again hs => rw [givenBack_eq c again hs]; exact hi
  | _ => exact hi

/-- The settings stand while a station is on the line, and off it no heard notice is on its way. -/
theorem Move.admissible {k : MoveKind} {C : RxItem → Prop} (m : Move s₀ k s t) (hoff : NoPeersWhenOff s)
    (hi : ∀ i ∈ Safety.heardItems s, i.sender ≠ s.settings.stationNumber ∧ C i)
    (hC : ∀ i, Admissible s i → C i) :
    ∀ i ∈ Safety.heardItems t, i.sender ≠ t.settings.stationNumber ∧ C i := fun i h => by
  have old : i.sender ≠ s.settings.stationNumber ∧ C i := by
    rcases m.heardItems i h with h | ⟨-, ha⟩
    · exact hi i h
    · exact ⟨ha.2.2.1, hC i ha⟩
  by_cases hset : t.settings = s.settings
  · rw [hset]
    exact old
  · refine absurd h ?_
    have gone : Safety.heardItems t = [] := by
      cases m with
      | write j v hs => exact (hoff (by rw [hs]; rfl)).2
      | reset ht => exact heardItems_empty (by rw [ht]; rfl) (by rw [ht]; rfl) (by rw [ht]; rfl)
      | port ht => exact absurd (by rw [ht]) hset
      | leaveDone ht => exact absurd (by rw [ht]; rfl) hset
      | halt _ _ _ ht => exact absurd (by rw [ht]; rfl) hset
      | frame f => exact absurd (by rw [nextFrame_eq]) hset
      | ownGrantedReleasing c => exact absurd (by rw [ownGrantedReleasing_eq]) hset
      | giveBack c again hs => exact absurd (by rw [givenBack_eq c again hs]) hset
      | _ => exact absurd rfl hset
    simp [gone]

theorem Move.peersLegal {k : MoveKind} (m : Move s₀ k s t) (hi : PeersLegal s) : PeersLegal t := by
  obtain ⟨horder, hrange, hheard, hoff⟩ := hi
  obtain ⟨h1, h2⟩ := m.peerTable hoff hheard ⟨horder, hrange⟩
  have h3 := m.admissible (C := fun i => 1 ≤ i.sender ∧ i.sender ≤ 32) hoff
    (fun i hi => ⟨(hheard i hi).2.2, (hheard i hi).1, (hheard i hi).2.1⟩) fun i ha => ⟨ha.1, ha.2.1⟩
  exact ⟨h1, h2, fun i hi => ⟨(h3 i hi).2.1, (h3 i hi).2.2, (h3 i hi).1⟩, m.noPeersWhenOff hoff⟩

/-! ### The resync set -/

/-- Marks stand in DESYNC, or in a leave that has still to clear them (R131). -/
def MarksLegal (s : State) : Prop :=
  (∀ p ∈ s.peers, p.awaiting = true → s.station = .desync ∨ s.unit.leaveWaiting = true) ∧
    (s.unit.leaveWaiting = true → s.station = .leaving)

/-- A station stays DESYNC only with a mark set, a refill waiting, or a job running that may clear marks (R126, R130). -/
def DesyncLegal (s : State) : Prop :=
  s.station = .desync →
    (∃ p ∈ s.peers, p.awaiting = true) ∨ s.unit.refillWaiting = true ∨ clearsMarks s.unit.job = true

theorem marksLegal_of (hi : MarksLegal s) (hs : t.station = s.station) (hu : t.unit.leaveWaiting = s.unit.leaveWaiting)
    (hp : ∀ q ∈ t.peers, q.awaiting = true → (∃ p ∈ s.peers, p.awaiting = true) ∨ s.station = .desync) : MarksLegal t := by
  refine ⟨fun q hq ha => ?_, by rw [hs, hu]; exact hi.2⟩
  rw [hs, hu]
  rcases hp q hq ha with ⟨p, hp, ha⟩ | h
  · exact hi.1 p hp ha
  · exact .inl h

theorem marksLegal_none (hp : ∀ p ∈ t.peers, p.awaiting = false) (hu : t.unit.leaveWaiting = false) : MarksLegal t :=
  ⟨fun p h ha => (by rw [hp p h] at ha; cases ha), fun h => (by rw [hu] at h; cases h)⟩

theorem Move.marksLegal {k : MoveKind} (m : Move s₀ k s t) (hi : MarksLegal s) : MarksLegal t := by
  -- a station that is neither DESYNC nor LEAVING has no mark
  have clear : s.station ≠ .desync → s.station ≠ .leaving →
      (∀ p ∈ s.peers, p.awaiting = false) ∧ s.unit.leaveWaiting = false := fun h1 h2 => by
    have hl : s.unit.leaveWaiting = false := by
      by_contra h
      exact h2 (hi.2 (by simpa using h))
    refine ⟨fun p hp => ?_, hl⟩
    by_contra h
    rcases hi.1 p hp (by simpa using h) with h | h
    · exact h1 h
    · rw [hl] at h
      cases h
  have noLeave : s.station.online = true → s.unit.leaveWaiting = false := fun ho => by
    by_contra h
    rw [hi.2 (by simpa using h)] at ho
    cases ho
  cases m with
  | port ht => rw [ht]; exact hi
  | join hs =>
    obtain ⟨h1, h2⟩ := clear (by simp [hs]) (by simp [hs])
    exact marksLegal_none h1 h2
  | unjoin hs =>
    obtain ⟨h1, h2⟩ := clear (by simp [hs]) (by simp [hs])
    exact marksLegal_none h1 h2
  | leaveDone ht => rw [ht]; exact marksLegal_none (fun p hp => nomatch hp) rfl
  | halt _ _ _ ht => rw [ht]; exact marksLegal_none (fun p hp => nomatch hp) rfl
  | reset ht => rw [ht]; exact marksLegal_none (fun p hp => nomatch hp) rfl
  | desync hs => exact ⟨fun _ _ _ => .inl rfl, fun h => by rw [show s.unit.leaveWaiting = false from noLeave hs] at h; cases h⟩
  | refill hs => exact marksLegal_of hi rfl rfl fun _ _ _ => .inr hs
  | rejoin hs hp => exact marksLegal_none hp (noLeave (by rw [hs]; rfl))
  | leaveStarted => exact ⟨fun _ _ _ => .inr rfl, fun _ => rfl⟩
  | leaveCleared =>
    refine marksLegal_none (fun p hp => ?_) rfl
    obtain ⟨q, -, rfl⟩ := List.mem_map.1 hp
    rfl
  | frame f => rw [nextFrame_eq]; exact hi
  | listened hs =>
    obtain ⟨h1, h2⟩ := clear (by simp [hs]) (by simp [hs])
    exact marksLegal_none h1 h2
  | grantSweep =>
    refine marksLegal_of hi rfl rfl fun q hq ha => ?_
    obtain ⟨p, hp, rfl⟩ := List.mem_map.1 hq
    exact .inl ⟨p, hp, ha⟩
  | ownGrantedReleasing c => rw [ownGrantedReleasing_eq]; exact hi
  | newPeer n notice hj hp =>
    refine marksLegal_of hi rfl rfl fun q hq ha => ?_
    rcases (mem_insertPeer _ q s.peers).1 hq with rfl | hq
    · exact .inr (of_decide_eq_true ha)
    · exact .inl ⟨q, hq, ha⟩
  | report n f hc hf =>
    refine marksLegal_of hi rfl rfl fun q hq ha => ?_
    obtain ⟨p, hp, rfl⟩ := List.mem_map.1 hq
    refine .inl ⟨p, hp, ?_⟩
    split at ha
    · exact (hf p).2.2 ha
    · exact ha
  | removeStation n b =>
    exact marksLegal_of hi rfl rfl fun q hq ha => .inl ⟨q, List.mem_of_mem_filter hq, ha⟩
  | giveBack c again hs => rw [givenBack_eq c again hs]; exact hi
  | _ => exact hi

theorem Move.desyncLegal {k : MoveKind} (m : Move s₀ k s t) (hk : k ≠ .ends) (hm : MarksLegal s) (hi : DesyncLegal s) :
    DesyncLegal t := by
  have elsewhere : t.station ≠ .desync → DesyncLegal t := fun h hd => absurd hd h
  cases m with
  | port ht => rw [ht]; exact hi
  | join => exact elsewhere (fun h => nomatch h)
  | unjoin => exact elsewhere (fun h => nomatch h)
  | leaveDone ht => exact elsewhere (by rw [ht]; simp)
  | halt _ _ _ ht => exact elsewhere (by rw [ht]; simp)
  | reset ht => exact elsewhere (by rw [ht]; exact fun h => nomatch h)
  | desync => exact fun _ => .inr (.inl rfl)
  | refill hs hp =>
    intro _
    obtain ⟨p, hp⟩ := List.exists_mem_of_ne_nil _ hp
    exact .inl ⟨_, List.mem_map_of_mem hp, rfl⟩
  | refillDropped hs => exact elsewhere hs
  | rejoin => exact elsewhere (fun h => nomatch h)
  | leaveStarted => exact elsewhere (fun h => nomatch h)
  | leaveCleared hw => exact elsewhere (by simp [hm.2 hw])
  | frame f => rw [nextFrame_eq]; exact hi
  | listened => exact elsewhere (fun h => nomatch h)
  | grantEvaluate => exact fun _ => .inr (.inr rfl)
  | grantSweep => exact fun _ => .inr (.inr rfl)
  | grantHost tk hj =>
    exact fun h => (hi h).imp_right fun h => h.imp_right fun h => by rw [hj] at h; cases h
  | grantPlacement c hj =>
    exact fun h => (hi h).imp_right fun h => h.imp_right fun h => by rw [hj] at h; cases h
  | jobOver h =>
    rcases h with ⟨-, h⟩ | h
    · exact fun hd => (hi hd).imp_right fun hr => hr.imp_right fun hc => by rw [h] at hc; cases hc
    · exact absurd h hk
  | newPeer n notice hj => exact fun _ => .inr (.inr (by simp only [hj]; rfl))
  | report n f hc => exact fun _ => .inr (.inr hc)
  | removeStation n b hc => exact fun _ => .inr (.inr hc)
  | lossNoted => exact fun _ => .inr (.inr rfl)
  | ownGranted | ownGrantedReleasing | ownVoid | ownVoidAgain | ownReleased | ownYielded => exact absurd rfl hk
  | giveBack c again hs => rw [givenBack_eq c again hs]; exact hi
  | _ => exact hi

theorem resyncLegal_iff : ResyncLegal s ↔ MarksLegal s ∧ DesyncLegal s := by
  unfold ResyncLegal MarksLegal DesyncLegal
  tauto

/-- The check that ends an EVALUATE or a SWEEP leaves no DESYNC with an empty resync set (R130). -/
theorem returnToJoined_desyncLegal : DesyncLegal s.returnToJoined := by
  unfold State.returnToJoined
  split
  · exact fun h => nomatch h
  · next h =>
    intro hd
    by_contra hn
    refine h ⟨hd, List.all_eq_true.2 fun p hp => ?_⟩
    simp only [not_or, not_exists, not_and] at hn
    simpa using hn.1 p hp

theorem StepShape.resyncLegal (h : StepShape s₀ P s t) (hP : ∀ k, P k → k ≠ .ends) (hi : ResyncLegal s) :
    ResyncLegal t := by
  have kept : ∀ {Q : MoveKind → Prop} {x y : State}, (∀ k, Q k → k ≠ .ends) → Moves s₀ Q x y → ResyncLegal x →
      ResyncLegal y := fun hQ hm hx =>
    hm.keeps (fun k x y hk m hx => by
      obtain ⟨h1, h2⟩ := resyncLegal_iff.1 hx
      exact resyncLegal_iff.2 ⟨m.marksLegal h1, m.desyncLegal (hQ k hk) h1 h2⟩) hx
  obtain ⟨x, hx, ht⟩ := h
  have moved := kept hP hx hi
  rcases ht with rfl | ⟨cmd, rfl⟩
  · exact moved
  · exact kept (by rintro k (rfl | rfl | rfl) <;> simp) (take_moves (s₀ := s₀) cmd) moved

theorem StepShape.marksLegal (h : StepShape s₀ P s t) (hi : MarksLegal s) : MarksLegal t :=
  h.keeps (fun _ _ _ m hx => m.marksLegal hx) hi

theorem finishEvaluate_resyncLegal (hi : ResyncLegal s) : ResyncLegal s.finishEvaluate := by
  have marks := (finishEvaluate_shape (s₀ := s) (s := s)).marksLegal (resyncLegal_iff.1 hi).1
  unfold State.finishEvaluate at marks ⊢
  split
  · next item hj =>
    simp only [hj] at marks
    unfold State.endEvaluate at marks ⊢
    split
    · have done : ResyncLegal s.leaveDone :=
        (StepShape.of_moves (P := (· = .tick)) (Moves.one (leaveDone_move (s₀ := s)) rfl)).resyncLegal
          (by rintro k rfl; simp) hi
      exact (portAtEntry_shape (s₀ := s) (P := (· = .calm)) _ rfl).resyncLegal (by rintro k rfl; simp) done
    · next h =>
      rw [if_neg h] at marks
      exact resyncLegal_iff.2 ⟨marks, returnToJoined_desyncLegal⟩
  · exact hi

theorem finishSweep_resyncLegal (hi : ResyncLegal s) : ResyncLegal s.finishSweep := by
  have marks := (StepShape.of_moves (finishSweep_moves (s₀ := s) (s := s))).marksLegal (resyncLegal_iff.1 hi).1
  unfold State.finishSweep at marks ⊢
  split
  · next lost hj =>
    simp only [hj] at marks
    exact resyncLegal_iff.2 ⟨marks, returnToJoined_desyncLegal⟩
  · exact hi

/-- What a grant and an end keep, a job at any of its points keeps. -/
theorem atPoint_keeps {inv : State → Prop} {p : JobPoint} {grant finish : State → State}
    (hg : ∀ x, inv x → inv (grant x)) (hf : ∀ x, inv x → inv (finish x)) (hi : inv s) :
    inv (atPoint p grant finish s) := by
  cases p with
  | grant => exact hg s hi
  | finish => exact hf s hi
  | whole =>
    unfold atPoint
    dsimp only
    split
    · exact hf _ (hg s hi)
    · exact hi

theorem exec_resyncLegal {i : Instr} (hi : ResyncLegal s) (h : exec i s = .next t) : ResyncLegal t := by
  have calm : ∀ {x y : State}, Calm x x y → ResyncLegal x → ResyncLegal y := fun hm hx =>
    (StepShape.of_moves hm).resyncLegal (by rintro k rfl; simp) hx
  obtain ⟨P, hP, hs⟩ := exec_shape h
  cases hP with
  | evaluated p =>
    cases h
    exact atPoint_keeps (fun x hx => calm grantEvaluate_calm hx) (fun x hx => finishEvaluate_resyncLegal hx) hi
  | swept p =>
    cases h
    exact atPoint_keeps (fun x hx => calm grantSweep_calm hx) (fun x hx => finishSweep_resyncLegal hx) hi
  | calm => exact hs.resyncLegal (by rintro k rfl; simp) hi
  | clears => exact hs.resyncLegal (by rintro k (rfl | rfl) <;> simp) hi
  | slice => exact hs.resyncLegal (by rintro k (rfl | rfl) <;> simp) hi
  | hold => exact hs.resyncLegal (by rintro k (rfl | rfl) <;> simp) hi
  | frame => exact hs.resyncLegal (by rintro k (rfl | ⟨f, rfl, -⟩) <;> simp) hi
  | realigned => exact hs.resyncLegal (by rintro k (rfl | ⟨f, rfl, -⟩) <;> simp) hi
  | leftHold => exact hs.resyncLegal (by rintro k (rfl | ⟨f, rfl, -⟩) <;> simp) hi
  | conflict => exact hs.resyncLegal (by rintro k (rfl | rfl) <;> simp) hi
  | lineFault => exact hs.resyncLegal (by rintro k (rfl | rfl) <;> simp) hi

/-! ### O6 -/

/-- Settles O6: every move keeps the peer table and the marks; the resync set by what ends the jobs that clear marks. -/
theorem peersAndResyncSetStayLegal : Obligations.PeersAndResyncSetStayLegal := by
  refine ⟨kept_of_moves (fun _ _ _ _ m _ hi => m.peersLegal hi) fun _ _ hi => hi,
    kept_of_exec (fun i s t hi h => exec_resyncLegal hi h) (fun s₀ k s t hk m _ hi => ?_) fun _ _ hi => hi⟩
  obtain ⟨h1, h2⟩ := resyncLegal_iff.1 hi
  exact resyncLegal_iff.2 ⟨m.marksLegal h1, m.desyncLegal (by rcases hk with rfl | rfl <;> simp) h1 h2⟩

end Sys2Proof.Machine
end

section
/-! PROOFS. The reservation table agrees with the channels and the peers (R1 to R4). -/

namespace Sys2Proof.Machine

open Sys2Proof.Safety

variable {s₀ s t : State} {b b' : Book} {p q : Fin 96} {n : Nat} {c : Chan} {e : Entry}

/-! ### Listed entries added one at a time -/

/-- The entry a listed one becomes (R120). -/
def Listed.entry (n : Nat) (l : Listed) : Entry := ⟨n, l.chan, l.win, l.weight, .held⟩

/-- Adoption adds the first listed entries as far as there is room, and changes no other position (R120). -/
theorem addListed_spec (n : Nat) (ls : List Listed) (b : Book) : ∃ k, k ≤ ls.length ∧
    ((addListed n ls b).complete = true ↔ k = ls.length) ∧
    (addListed n ls b).added = (ls.take k).map (fun l => l.win) ∧
    (∀ p e, (addListed n ls b).book.entry p = some e →
      b.entry p = some e ∨ b.entry p = none ∧ ∃ l ∈ ls.take k, e = l.entry n) ∧
    (∀ p e, b.entry p = some e → (addListed n ls b).book.entry p = some e) ∧
    (∀ l ∈ ls.take k, ∃ p, (addListed n ls b).book.entry p = some (l.entry n)) ∧
    (k < ls.length → ∀ p, (addListed n ls b).book.entry p ≠ none) := by
  induction ls generalizing b with
  | nil => exact ⟨0, Nat.le_refl _, by simp [addListed], rfl, fun p e h => .inl h, fun p e h => h, by simp, by simp⟩
  | cons l ls ih =>
    cases hb : b.add (l.entry n) with
    | none =>
      have stop : addListed n (l :: ls) b = ⟨b, [], false⟩ := by
        simp only [Listed.entry] at hb
        simp only [addListed, hb]
      rw [stop]
      exact ⟨0, Nat.zero_le _, by simp, rfl, fun p e h => .inl h, fun p e h => h, by simp,
        fun _ => Book.add_eq_none.1 hb⟩
    | some b' =>
      have more : addListed n (l :: ls) b = { addListed n ls b' with added := l.win :: (addListed n ls b').added } := by
        simp only [Listed.entry] at hb
        simp only [addListed, hb]
      obtain ⟨p₀, hp₀, -, rfl⟩ := Book.add_eq_some.1 hb
      obtain ⟨k, h1, h2, h3, h4, h5, h6, h7⟩ := ih (b.put p₀ (l.entry n))
      rw [more]
      refine ⟨k + 1, Nat.succ_le_succ h1, by simpa using h2, by simp [h3], fun p e h => ?_, fun p e h => h5 p e ?_,
        fun m hm => ?_, fun hk => h7 (Nat.lt_of_succ_lt_succ hk)⟩
      · rcases h4 p e h with h | ⟨h, m, hm, he⟩
        · rw [Book.put_entry] at h
          split at h
          · next hp => exact .inr ⟨hp ▸ hp₀, l, by simp, by simpa using h.symm⟩
          · exact .inl h
        · rw [Book.put_entry] at h
          split at h
          · cases h
          · exact .inr ⟨h, m, by simp [hm], he⟩
      · rw [Book.put_entry, if_neg (fun hp => by rw [hp, hp₀] at h; cases h)]
        exact h
      · rcases List.mem_cons.1 (by simpa using hm : m ∈ l :: ls.take k) with rfl | hm
        · exact ⟨p₀, h5 _ _ (by rw [Book.put_entry, if_pos rfl])⟩
        · exact h6 m hm

/-! ### One entry for a key -/

theorem keysDistinct_of_sub (hk : KeysDistinct b)
    (h : ∀ p e, b'.entry p = some e → ∃ f, b.entry p = some f ∧ f.owner = e.owner ∧ f.chan = e.chan) :
    KeysDistinct b' := fun p q e he f hf ho hc => by
  obtain ⟨e', he', h1, h2⟩ := h p e he
  obtain ⟨f', hf', h3, h4⟩ := h q f hf
  exact hk p q e' he' f' hf' (by rw [h1, h3, ho]) (by rw [h2, h4, hc])

theorem keysDistinct_empty : KeysDistinct Book.empty := fun p q e he => by
  rw [show Book.empty.entry p = none from get_replicate _ p] at he
  cases he

/-- A new key at a free position. -/
theorem keysDistinct_put (hk : KeysDistinct b)
    (hnew : ∀ q f, b.entry q = some f → ¬ (f.owner = e.owner ∧ f.chan = e.chan)) : KeysDistinct (b.put p e) := by
  intro p' q' e' he f hf ho hc
  rw [Book.put_entry] at he hf
  split at he
  · next h1 =>
    obtain rfl : e = e' := by simpa using he
    split at hf
    · next h2 => rw [h1, h2]
    · exact absurd ⟨ho.symm, hc.symm⟩ (hnew q' f hf)
  · split at hf
    · obtain rfl : e = f := by simpa using hf
      exact absurd ⟨ho, hc⟩ (hnew p' e' he)
    · exact hk p' q' e' he f hf ho hc

theorem entry_dropKey (hk : KeysDistinct b) :
    (b.dropKey n c).entry p = some e ↔ b.entry p = some e ∧ ¬ (e.owner = n ∧ e.chan = c) := by
  rw [Book.dropKey_entry hk]
  cases h : b.entry p with
  | none => simp
  | some f =>
    by_cases hf : f.isFor n c = true
    · simp only [Option.any_some, hf, if_true, Option.some.injEq]
      exact Iff.intro (fun h => by cases h) fun ⟨he, hn⟩ => absurd (Entry.isFor_iff.1 (he ▸ hf)) hn
    · simp only [Option.any_some, hf, Bool.false_eq_true, if_false, Option.some.injEq]
      exact Iff.intro (fun he => ⟨he, fun hn => hf (he ▸ Entry.isFor_iff.2 hn)⟩) (fun h => h.1)

theorem entry_restateKey (hk : KeysDistinct b) (st : EntryState) :
    (b.restateKey n c st).entry p = some e ↔
      (b.entry p = some e ∧ ¬ (e.owner = n ∧ e.chan = c)) ∨
        ∃ f, b.entry p = some f ∧ f.owner = n ∧ f.chan = c ∧ e = { f with state := st } := by
  rw [Book.restateKey_entry hk]
  cases h : b.entry p with
  | none => simp
  | some f =>
    by_cases hf : f.isFor n c = true
    · have hf' := Entry.isFor_iff.1 hf
      simp only [Option.any_some, hf, if_true, Option.map_some, Option.some.injEq]
      constructor
      · rintro rfl
        exact .inr ⟨f, rfl, hf'.1, hf'.2, rfl⟩
      · rintro (⟨rfl, hn⟩ | ⟨g, rfl, -, -, rfl⟩)
        · exact absurd hf' hn
        · rfl
    · simp only [Option.any_some, hf, Bool.false_eq_true, if_false, Option.some.injEq]
      constructor
      · rintro rfl
        exact .inl ⟨rfl, fun hn => hf (Entry.isFor_iff.2 hn)⟩
      · rintro (⟨rfl, -⟩ | ⟨g, rfl, h1, h2, -⟩)
        · rfl
        · exact absurd (Entry.isFor_iff.2 ⟨h1, h2⟩) hf

/-- The last of two changes of an entry's state counts. -/
theorem entry_restateKey_twice (hk : KeysDistinct b) (st st' : EntryState)
    (hk' : KeysDistinct (b.restateKey n c st)) :
    ((b.restateKey n c st).restateKey n c st').entry p = some e ↔ (b.restateKey n c st').entry p = some e := by
  simp only [entry_restateKey hk', entry_restateKey hk]
  constructor
  · rintro (⟨h | ⟨f, -, h1, h2, rfl⟩, hn⟩ | ⟨f, ⟨-, hn⟩ | ⟨g, hg, h1, h2, rfl⟩, h3, h4, rfl⟩)
    · exact .inl h
    · exact absurd ⟨h1, h2⟩ hn
    · exact absurd ⟨h3, h4⟩ hn
    · exact .inr ⟨g, hg, h1, h2, rfl⟩
  · rintro (⟨h, hn⟩ | ⟨f, hf, h1, h2, rfl⟩)
    · exact .inl ⟨.inl ⟨h, hn⟩, hn⟩
    · exact .inr ⟨_, .inr ⟨f, hf, h1, h2, rfl⟩, h1, h2, rfl⟩

theorem entry_dropOwned : (b.dropOwned n).entry p = some e ↔ b.entry p = some e ∧ e.owner ≠ n := by
  rw [Book.dropOwned_entry]
  cases h : b.entry p with
  | none => simp
  | some f =>
    by_cases hf : f.owner = n
    · simp only [Option.any_some, hf, beq_self_eq_true, if_true, Option.some.injEq]
      exact Iff.intro (fun h => by cases h) fun ⟨he, hn⟩ => absurd (he ▸ hf) hn
    · simp only [Option.any_some, beq_iff_eq, hf, if_false, Option.some.injEq]
      exact ⟨fun he => ⟨he, he ▸ hf⟩, fun h => h.1⟩

theorem keysDistinct_dropKey (hk : KeysDistinct b) : KeysDistinct (b.dropKey n c) :=
  keysDistinct_of_sub hk fun _ e h => ⟨e, ((entry_dropKey hk).1 h).1, rfl, rfl⟩

theorem keysDistinct_dropOwned (hk : KeysDistinct b) : KeysDistinct (b.dropOwned n) :=
  keysDistinct_of_sub hk fun _ e h => ⟨e, (entry_dropOwned.1 h).1, rfl, rfl⟩

theorem keysDistinct_restateKey (hk : KeysDistinct b) (st : EntryState) : KeysDistinct (b.restateKey n c st) :=
  keysDistinct_of_sub hk fun _ e h => by
    rcases (entry_restateKey hk st).1 h with ⟨hf, -⟩ | ⟨f, hf, -, -, rfl⟩
    · exact ⟨e, hf, rfl, rfl⟩
    · exact ⟨f, hf, rfl, rfl⟩

/-- Listed channels in ascending order are different ones. -/
theorem nodup_of_ascending {ls : List Listed} (h : ascending ls = true) : (ls.map (fun l => l.chan)).Nodup := by
  have above : ∀ (ls : List Listed) (l : Listed), ascending (l :: ls) = true → ∀ m ∈ ls, l.chan < m.chan := by
    intro ls
    induction ls with
    | nil => exact fun l _ m hm => nomatch hm
    | cons k ls ih =>
      intro l h m hm
      simp only [ascending, Bool.and_eq_true, decide_eq_true_eq] at h
      rcases List.mem_cons.1 hm with rfl | hm
      · exact h.1
      · exact h.1.trans (ih k h.2 m hm)
  induction ls with
  | nil => exact List.nodup_nil
  | cons l ls ih =>
    have tail : ascending ls = true := by
      cases ls with
      | nil => rfl
      | cons k ls =>
        simp only [ascending, Bool.and_eq_true] at h
        exact h.2
    rw [List.map_cons, List.nodup_cons]
    refine ⟨fun hm => ?_, ih tail⟩
    obtain ⟨m, hm, he⟩ := List.mem_map.1 hm
    exact absurd (above ls l h m hm) (by rw [he]; exact lt_irrefl _)

theorem keysDistinct_addListed {ls : List Listed} (hk : KeysDistinct b) (hn : (ls.map (fun l => l.chan)).Nodup)
    (hnew : ∀ q f, b.entry q = some f → ∀ l ∈ ls, ¬ (f.owner = n ∧ f.chan = l.chan)) :
    KeysDistinct (addListed n ls b).book := by
  induction ls generalizing b with
  | nil => exact hk
  | cons l ls ih =>
    rw [List.map_cons, List.nodup_cons] at hn
    unfold addListed
    split
    · exact hk
    · next b' hb =>
      obtain ⟨p, hp, -, rfl⟩ := Book.add_eq_some.1 hb
      refine ih (keysDistinct_put hk fun q f hf => hnew q f hf l List.mem_cons_self) hn.2 fun q f hf m hm => ?_
      rw [Book.put_entry] at hf
      split at hf
      · obtain rfl := Option.some.inj hf
        rintro ⟨-, hc⟩
        exact hn.1 (List.mem_map.2 ⟨m, hm, hc.symm⟩)
      · exact hnew q f hf m (List.mem_cons_of_mem _ hm)

/-! ### Entries and their owners -/

/-- Every entry is as its owner makes it, and every channel that should have an entry has one (R2 to R4). -/
def OwnersMatch (s : State) : Prop :=
  (∀ p : Fin 96, ∀ e ∈ s.book.entry p, EntryMatches s e) ∧
    ∀ c : Chan, (entryStateOf (s.chan c).state).isSome = true →
      ∃ p : Fin 96, ∃ e ∈ s.book.entry p, e.owner = s.settings.stationNumber ∧ e.chan = c

/-- The same book, settings and channel states and windows, and no peer number gone. -/
theorem ownersMatch_of (hi : OwnersMatch s) (hb : t.book = s.book) (hset : t.settings = s.settings)
    (hc : ∀ c, (t.chan c).state = (s.chan c).state ∧ (t.chan c).window = (s.chan c).window)
    (hp : ∀ n, (∃ p ∈ s.peers, p.number = n) → ∃ p ∈ t.peers, p.number = n) : OwnersMatch t := by
  refine ⟨fun p e he => ?_, fun c hs => ?_⟩
  · have old := hi.1 p e (hb ▸ he)
    unfold EntryMatches at old ⊢
    rw [hset]
    split at old
    · next ho => rw [if_pos ho, (hc _).1, (hc _).2]; exact old
    · next ho => rw [if_neg ho]; exact ⟨old.1, hp _ old.2⟩
  · rw [(hc c).1] at hs
    rw [hb, hset]
    exact hi.2 c hs

theorem ownersMatch_empty (hb : t.book = Book.empty)
    (hc : ∀ c, (t.chan c).state = .idle ∨ (t.chan c).state = .placing) : OwnersMatch t :=
by
  refine ⟨fun p e he => ?_, fun c hs => ?_⟩
  · rw [hb, show Book.empty.entry p = none from get_replicate _ p] at he
    cases he
  · rcases hc c with h | h <;> rw [h] at hs <;> cases hs

/-- A channel with no entry state has no entry. -/
theorem noEntry_of (hi : OwnersMatch s) (hc : entryStateOf (s.chan c).state = none) :
    ∀ p e, s.book.entry p = some e → ¬ (e.owner = s.settings.stationNumber ∧ e.chan = c) := by
  rintro p e he ⟨ho, rfl⟩
  have h := hi.1 p e he
  unfold EntryMatches at h
  rw [if_pos ho, hc] at h
  cases h.1

/-- One channel and its own entry change together. -/
theorem ownersMatch_own {x : State} {ch : Channel} (hi : OwnersMatch s) (hset : x.settings = s.settings)
    (hx : x.channels = s.channels) (hp : x.peers = s.peers)
    (hother : ∀ p e, ¬ (e.owner = s.settings.stationNumber ∧ e.chan = c) →
      (x.book.entry p = some e ↔ s.book.entry p = some e))
    (hown : ∀ p e, x.book.entry p = some e → e.owner = s.settings.stationNumber → e.chan = c →
      entryStateOf ch.state = some e.state ∧ ch.window = some e.win ∧ e.weight = s.settings.weight.get c)
    (hhas : (entryStateOf ch.state).isSome = true →
      ∃ p e, x.book.entry p = some e ∧ e.owner = s.settings.stationNumber ∧ e.chan = c) :
    OwnersMatch (x.setChan c ch) := by
  have hset' : (x.setChan c ch).settings = s.settings := hset
  refine ⟨fun p e he => ?_, fun d hd => ?_⟩
  · by_cases hk : e.owner = s.settings.stationNumber ∧ e.chan = c
    · unfold EntryMatches
      rw [hset', if_pos hk.1, State.setChan_chan, if_pos hk.2, hk.2]
      exact hown p e he hk.1 hk.2
    · have old := hi.1 p e ((hother p e hk).1 he)
      unfold EntryMatches at old ⊢
      rw [hset']
      split at old
      · next ho =>
        rw [if_pos ho, State.setChan_chan, if_neg fun h => hk ⟨ho, h⟩, State.chan_congr hx]
        exact old
      · next ho =>
        rw [if_neg ho]
        exact ⟨old.1, by rw [show (x.setChan c ch).peers = s.peers from hp]; exact old.2⟩
  · rw [hset']
    rw [State.setChan_chan] at hd
    by_cases hdc : d = c
    · rw [if_pos hdc] at hd
      obtain ⟨p, e, he, ho, hc⟩ := hhas hd
      exact ⟨p, e, he, ho, hc.trans hdc.symm⟩
    · rw [if_neg hdc, State.chan_congr hx] at hd
      obtain ⟨p, e, he, ho, hc⟩ := hi.2 d hd
      exact ⟨p, e, (hother p e fun h => hdc (hc ▸ h.2)).2 he, ho, hc⟩

/-- The own entry of a channel goes, and the channel with it. -/
theorem ownersMatch_dropOwn {x : State} {ch : Channel} (hk : KeysDistinct s.book) (hi : OwnersMatch s)
    (hset : x.settings = s.settings) (hx : x.channels = s.channels) (hp : x.peers = s.peers)
    (hb : x.book = s.book.dropKey s.settings.stationNumber c) (hch : entryStateOf ch.state = none) :
    OwnersMatch (x.setChan c ch) := by
  refine ownersMatch_own hi hset hx hp (fun p e hn => ?_) (fun p e he ho hc => ?_) fun h => by rw [hch] at h; cases h
  · rw [hb, entry_dropKey hk]
    exact and_iff_left hn
  · rw [hb, entry_dropKey hk] at he
    exact absurd ⟨ho, hc⟩ he.2

/-- The own entry of a channel changes its state, and the channel with it. -/
theorem ownersMatch_restate {x : State} {ch : Channel} {st : EntryState} (hk : KeysDistinct s.book)
    (hi : OwnersMatch s) (hset : x.settings = s.settings) (hx : x.channels = s.channels) (hp : x.peers = s.peers)
    (hb : ∀ p e, x.book.entry p = some e ↔ (s.book.restateKey s.settings.stationNumber c st).entry p = some e)
    (hold : (entryStateOf (s.chan c).state).isSome = true) (hch : entryStateOf ch.state = some st)
    (hw : ch.window = (s.chan c).window) : OwnersMatch (x.setChan c ch) := by
  refine ownersMatch_own hi hset hx hp (fun p e hn => ?_) (fun p e he ho hc => ?_) fun _ => ?_
  · rw [hb p e, entry_restateKey hk]
    constructor
    · rintro (h | ⟨f, -, h1, h2, rfl⟩)
      · exact h.1
      · exact absurd ⟨h1, h2⟩ hn
    · exact fun h => .inl ⟨h, hn⟩
  · rw [hb p e, entry_restateKey hk] at he
    rcases he with ⟨-, hn⟩ | ⟨f, hf, h1, h2, rfl⟩
    · exact absurd ⟨ho, hc⟩ hn
    · have old := hi.1 p f hf
      unfold EntryMatches at old
      rw [if_pos h1, h2] at old
      exact ⟨hch, hw.trans old.2.1, old.2.2⟩
  · obtain ⟨p, e, he, ho, hc⟩ := hi.2 c hold
    exact ⟨p, { e with state := st }, by rw [hb, entry_restateKey hk]; exact .inr ⟨e, he, ho, hc, rfl⟩, ho, hc⟩

/-- Entries of another station come and go, every one HELD and its owner known. -/
theorem ownersMatch_peer (hi : OwnersMatch s) (hset : t.settings = s.settings) (hx : t.channels = s.channels)
    (hother : ∀ p e, e.owner = s.settings.stationNumber → (t.book.entry p = some e ↔ s.book.entry p = some e))
    (hnew : ∀ p e, t.book.entry p = some e → e.owner ≠ s.settings.stationNumber →
      e.state = .held ∧ ∃ q ∈ t.peers, q.number = e.owner) : OwnersMatch t := by
  refine ⟨fun p e he => ?_, fun c hc => ?_⟩
  · unfold EntryMatches
    rw [hset]
    split
    · next ho =>
      have old := hi.1 p e ((hother p e ho).1 he)
      unfold EntryMatches at old
      rw [if_pos ho] at old
      rw [State.chan_congr hx]
      exact old
    · next ho => exact hnew p e he ho
  · rw [State.chan_congr hx] at hc
    rw [hset]
    obtain ⟨p, e, he, ho, hec⟩ := hi.2 c hc
    exact ⟨p, e, (hother p e ho).2 he, ho, hec⟩

/-- What an entry of another station says about its owner. -/
theorem peerEntry (hi : OwnersMatch s) (he : s.book.entry p = some e) (ho : e.owner ≠ s.settings.stationNumber) :
    e.state = .held ∧ ∃ q ∈ s.peers, q.number = e.owner := by
  have := hi.1 p e he
  unfold EntryMatches at this
  rwa [if_neg ho] at this

/-! ### Every move keeps them -/

/-- The state of an admitted notice, as the entries see it. -/
theorem Move.ownersMatch {k : MoveKind} (m : Move s₀ k s t) (h₀ : PlacementServes s₀) (hk : KeysDistinct s.book)
    (hpeers : ∀ p ∈ s.peers, p.number ≠ s.settings.stationNumber)
    (hheard : ∀ i ∈ Safety.heardItems s, i.sender ≠ s.settings.stationNumber ∧ i.notice.wellFormed = true)
    (hoff : s.station.running = false → s.book = Book.empty) (hi : OwnersMatch s) :
    KeysDistinct t.book ∧ OwnersMatch t := by
  have numbers : ∀ {f : Peer → Peer}, (∀ p, (f p).number = p.number) → ∀ n, (∃ p ∈ s.peers, p.number = n) →
      ∃ p ∈ s.peers.map f, p.number = n := fun hf n ⟨p, hp, hn⟩ => ⟨_, List.mem_map_of_mem hp, (hf p).trans hn⟩
  -- one channel record that keeps its state and window
  have kept : ∀ {x : State} {c : Chan} {ch : Channel}, x.book = s.book → x.settings = s.settings → x.peers = s.peers →
      x.channels = s.channels → ch.state = (s.chan c).state → ch.window = (s.chan c).window →
      KeysDistinct (x.setChan c ch).book ∧ OwnersMatch (x.setChan c ch) := fun {x c ch} h1 h2 h3 h4 h5 h6 => by
    refine ⟨by rw [State.setChan_book, h1]; exact hk, ownersMatch_of hi h1 h2 (fun d => ?_) fun n h => ?_⟩
    · rw [State.setChan_chan]
      split
      · next h => rw [h]; exact ⟨h5, h6⟩
      · rw [State.chan_congr h4]; exact ⟨rfl, rfl⟩
    · rw [State.setChan_peers, h3]
      exact h
  -- a channel without an entry goes to another state without one
  have entryless : ∀ {x : State} {c : Chan} {ch : Channel}, x.book = s.book → x.settings = s.settings →
      x.peers = s.peers → x.channels = s.channels → entryStateOf (s.chan c).state = none →
      entryStateOf ch.state = none → KeysDistinct (x.setChan c ch).book ∧ OwnersMatch (x.setChan c ch) :=
    fun {x c ch} h1 h2 h3 h4 h5 h6 => by
      refine ⟨by rw [State.setChan_book, h1]; exact hk,
        ownersMatch_own hi h2 h4 h3 (fun p e _ => by rw [h1]) (fun p e he ho hc => ?_) fun h => by rw [h6] at h; cases h⟩
      exact absurd ⟨ho, hc⟩ (noEntry_of hi h5 p e (h1 ▸ he))
  have dropKept : ∀ {c : Chan}, KeysDistinct (s.book.dropKey s.settings.stationNumber c) := keysDistinct_dropKey hk
  have freed : ∀ (c : Chan) (g : List Chan) (f : Channel → Channel), entryStateOf (f (s.chan c)).state = none →
      KeysDistinct (s.ownFreed c g f).book ∧ OwnersMatch (s.ownFreed c g f) := fun c g f hf =>
    ⟨dropKept, ownersMatch_dropOwn (x := { s with
      unit := { s.unit with job := none }, book := s.book.dropKey s.settings.stationNumber c, grants := g })
      hk hi rfl rfl rfl rfl hf⟩
  have known : ∀ p e, s.book.entry p = some e → e.owner ≠ s.settings.stationNumber →
      e.state = .held ∧ ∃ q ∈ s.peers, q.number = e.owner := fun p e he ho => peerEntry hi he ho
  cases m with
  | port ht => rw [ht]; exact ⟨hk, hi⟩
  | outcome c => exact kept rfl rfl rfl rfl rfl rfl
  | write i v hs =>
    have he : s.book = Book.empty := hoff (by rw [hs]; rfl)
    refine ⟨hk, ownersMatch_empty he fun c => ?_⟩
    have none : ¬ (entryStateOf (s.chan c).state).isSome = true := fun h => by
      obtain ⟨p, e, hp, -⟩ := hi.2 c h
      rw [he, show Book.empty.entry p = none from get_replicate _ p] at hp
      cases hp
    show (s.chan c).state = .idle ∨ (s.chan c).state = .placing
    cases hc : (s.chan c).state <;> simp [hc, entryStateOf] at none ⊢
  | leaveDone ht hd =>
    have hb : t.book = Book.empty := by rw [ht]; rfl
    exact ⟨hb ▸ keysDistinct_empty, ownersMatch_empty hb
      (hd.states fun st h => by cases st <;> simp [ChanState.dropsAtLeave] at h ⊢)⟩
  | halt _ _ _ ht hd =>
    have hb : t.book = Book.empty := by rw [ht]; rfl
    exact ⟨hb ▸ keysDistinct_empty, ownersMatch_empty hb (hd.states fun st h => .inl (by simpa using h))⟩
  | reset ht =>
    have hb : t.book = Book.empty := by rw [ht]; rfl
    have hch : t.channels = Vector.replicate 8 Channel.reset := by rw [ht]; rfl
    exact ⟨hb ▸ keysDistinct_empty, ownersMatch_empty hb fun c => by
      rw [State.chan_eq, hch, get_replicate]
      exact .inl rfl⟩
  | refill => exact ⟨hk, ownersMatch_of hi rfl rfl (fun _ => ⟨rfl, rfl⟩) (numbers fun _ => rfl)⟩
  | leaveStarted =>
    exact ⟨hk, ownersMatch_of hi rfl rfl (fun c => by rw [leaveStarted_chan]; exact ⟨rfl, rfl⟩) fun _ h => h⟩
  | leaveCleared => exact ⟨hk, ownersMatch_of hi rfl rfl (fun _ => ⟨rfl, rfl⟩) (numbers fun _ => rfl)⟩
  | dropPlacing c hc => exact entryless rfl rfl rfl rfl (by rw [hc h₀]; rfl) rfl
  | withdraw c l q ws hc =>
    exact ⟨dropKept, ownersMatch_dropOwn (x := { s with
      book := _, line := _, txQueue := _, unit := _ }) hk hi rfl rfl rfl rfl rfl⟩
  | clearMarks c => exact kept rfl rfl rfl rfl rfl rfl
  | mark c => exact kept rfl rfl rfl rfl rfl rfl
  | shedStarted =>
    refine ⟨hk, ownersMatch_of hi rfl rfl (fun c => ?_) fun _ h => h⟩
    rw [shedStarted_chan]
    split <;> exact ⟨rfl, rfl⟩
  | shedOver =>
    exact ⟨hk, ownersMatch_of hi rfl rfl (fun c => by rw [State.cancelShed_chan]; exact ⟨rfl, rfl⟩) fun _ h => h⟩
  | slice => exact ⟨hk, hi⟩
  | frame f =>
    refine ⟨by rw [nextFrame_eq]; exact hk, ownersMatch_of hi (by rw [nextFrame_eq]) (by rw [nextFrame_eq])
      (fun c => ?_) fun n h => by rw [nextFrame_eq]; exact h⟩
    rw [nextFrame_chan]
    split <;> exact ⟨rfl, rfl⟩
  | grantSweep => exact ⟨hk, ownersMatch_of hi rfl rfl (fun _ => ⟨rfl, rfl⟩) (numbers fun _ => rfl)⟩
  | ownGranted c n w wt hj hc =>
    exact ⟨keysDistinct_restateKey hk .held, ownersMatch_restate (st := .held) (x := { s with
      unit := _, book := _, grants := _ }) hk hi rfl rfl rfl (fun _ _ => Iff.rfl) (by rw [hc]; rfl) rfl rfl⟩
  | ownGrantedReleasing c n w wt hj hc =>
    rw [ownGrantedReleasing_eq]
    have distinct : KeysDistinct (s.book.restateKey s.settings.stationNumber c .held) := keysDistinct_restateKey hk .held
    exact ⟨keysDistinct_restateKey distinct .releasing, ownersMatch_restate (st := .releasing) (x := { s with
      unit := _, book := _, grants := _, txQueue := _ }) hk hi rfl rfl rfl
      (fun _ _ => entry_restateKey_twice hk .held .releasing distinct) (by rw [hc]; rfl) rfl rfl⟩
  | ownVoid c => exact freed c _ _ rfl
  | ownVoidAgain c => exact freed c _ _ rfl
  | ownReleased c => exact freed c _ _ rfl
  | ownYielded c => exact freed c _ _ rfl
  | newPeer n notice hj hp =>
    exact ⟨hk, ownersMatch_of hi rfl rfl (fun _ => ⟨rfl, rfl⟩) fun m ⟨p, hp, hn⟩ =>
      ⟨p, (mem_insertPeer _ p s.peers).2 (.inr hp), hn⟩⟩
  | report n f hc hf =>
    exact ⟨hk, ownersMatch_of hi rfl rfl (fun _ => ⟨rfl, rfl⟩) fun m h =>
      (exists_updatePeer (fun p => (hf p).1)).2 h⟩
  | removeStation n b hc hp hb =>
    obtain ⟨r, hr, hrn⟩ := hp
    have hne : n ≠ s.settings.stationNumber := hrn ▸ hpeers r hr
    have entries : ∀ p e, b.entry p = some e ↔ s.book.entry p = some e ∧ e.owner ≠ n := fun p e => by
      rw [hb]
      exact entry_dropOwned
    have distinct : KeysDistinct b := by rw [hb]; exact keysDistinct_dropOwned hk
    refine ⟨distinct, ownersMatch_peer hi rfl rfl (fun p e ho => ?_) fun p e he ho => ?_⟩
    · exact (entries p e).trans (and_iff_left (ho ▸ hne.symm))
    · obtain ⟨he, hn⟩ := (entries p e).1 he
      obtain ⟨hst, q, hq, hqo⟩ := peerEntry hi he ho
      exact ⟨hst, q, List.mem_filter.2 ⟨hq, by simpa [hqo] using hn⟩, hqo⟩
  | heardDrop n c notice hj =>
    obtain ⟨hne, -⟩ := hheard _ (mem_heardItems_of_job hj)
    refine ⟨keysDistinct_dropKey hk, ownersMatch_peer hi rfl rfl (fun p e ho => ?_) fun p e he ho => ?_⟩
    · exact (entry_dropKey hk).trans (and_iff_left fun h => hne (h.1.symm.trans ho))
    · exact known p e ((entry_dropKey hk).1 he).1 ho
  | heardAdd n c w wt b hj hp hb =>
    obtain ⟨hne, -⟩ := hheard _ (mem_heardItems_of_job hj)
    obtain ⟨p₀, hp₀, -, rfl⟩ := Book.add_eq_some.1 hb
    refine ⟨keysDistinct_put (keysDistinct_dropKey hk) fun q f hf => ((entry_dropKey hk).1 hf).2,
      ownersMatch_peer hi rfl rfl (fun p e ho => ?_) fun p e he ho => ?_⟩
    · dsimp only
      rw [Book.put_entry]
      split
      · next h =>
        subst h
        refine ⟨fun he => absurd ((congrArg Entry.owner (Option.some.inj he)).trans ho) hne, fun he => ?_⟩
        have := (entry_dropKey (n := n) (c := c) hk).2 ⟨he, fun h => hne (h.1.symm.trans ho)⟩
        rw [hp₀] at this
        cases this
      · exact (entry_dropKey hk).trans (and_iff_left fun h => hne (h.1.symm.trans ho))
    · dsimp only at he
      rw [Book.put_entry] at he
      split at he
      · obtain rfl := Option.some.inj he
        exact ⟨rfl, hp⟩
      · exact known p e ((entry_dropKey hk).1 he).1 ho
  | heardAdopt n budget ls b hj hp hb =>
    obtain ⟨hne, hw⟩ := hheard _ (mem_heardItems_of_job hj)
    have asc : ascending ls = true := by
      simp only [Notice.wellFormed, Bool.and_eq_true] at hw
      exact hw.2
    obtain ⟨k, -, -, -, hfrom, hkeep, -, -⟩ := addListed_spec n ls (s.book.dropOwned n)
    rw [← hb] at hfrom hkeep
    have distinct : KeysDistinct b := by
      rw [hb]
      exact keysDistinct_addListed (keysDistinct_dropOwned hk) (nodup_of_ascending asc)
        fun q f hf l _ h => (entry_dropOwned.1 hf).2 h.1
    refine ⟨distinct, ownersMatch_peer hi rfl rfl (fun p e ho => ?_) fun p e he ho => ?_⟩
    · refine ⟨fun he => ?_, fun he => hkeep p e (entry_dropOwned.2 ⟨he, ho ▸ hne.symm⟩)⟩
      rcases hfrom p e he with h | ⟨-, l, -, rfl⟩
      · exact (entry_dropOwned.1 h).1
      · exact absurd ho hne
    · rcases hfrom p e he with h | ⟨-, l, -, rfl⟩
      · exact known p e (entry_dropOwned.1 h).1 ho
      · exact ⟨rfl, hp⟩
  | request c mode start len hs hc => exact entryless rfl rfl rfl rfl (by rw [hc]; rfl) rfl
  | number c => exact kept rfl rfl rfl rfl rfl rfl
  | place c w b hs hc hj hb =>
    have absent := noEntry_of hi (c := c) (by rw [hc h₀]; rfl)
    obtain ⟨p₀, hp₀, -, rfl⟩ := Book.add_eq_some.1 hb
    refine ⟨keysDistinct_put hk absent, ownersMatch_own (x := { s with book := _, txQueue := _ }) hi rfl rfl rfl
      (fun p e hn => ?_) (fun p e he ho hec => ?_) fun _ => ⟨p₀, _, by rw [Book.put_entry, if_pos rfl], rfl, rfl⟩⟩
    · rw [Book.put_entry]
      split
      · next h =>
        subst h
        exact ⟨fun he => absurd (Option.some.inj he ▸ ⟨rfl, rfl⟩) hn, fun he => by rw [hp₀] at he; cases he⟩
      · exact Iff.rfl
    · rw [Book.put_entry] at he
      split at he
      · obtain rfl := Option.some.inj he
        exact ⟨rfl, rfl, rfl⟩
      · exact absurd ⟨ho, hec⟩ (absent p e he)
  | giveBack c again hs hc =>
    rw [givenBack_eq c again hs]
    exact ⟨keysDistinct_restateKey hk .releasing, ownersMatch_restate (st := .releasing) (x := { s with
      book := _, driven := _, txQueue := _ }) hk hi rfl rfl rfl (fun _ _ => Iff.rfl) (by rw [hc]; rfl) rfl rfl⟩
  | _ => exact ⟨hk, hi⟩

/-- A peer number after a move stood before it, or is the sender's of a heard notice (R114). -/
theorem Move.peer_numbers {k : MoveKind} (m : Move s₀ k s t) : ∀ q ∈ t.peers,
    (∃ p ∈ s.peers, p.number = q.number) ∨ ∃ i ∈ Safety.heardItems s, i.sender = q.number := by
  have same : ∀ q ∈ s.peers, (∃ p ∈ s.peers, p.number = q.number) ∨ ∃ i ∈ Safety.heardItems s, i.sender = q.number :=
    fun q hq => .inl ⟨q, hq, rfl⟩
  have mapped : ∀ {f : Peer → Peer}, (∀ p, (f p).number = p.number) → ∀ q ∈ s.peers.map f,
      (∃ p ∈ s.peers, p.number = q.number) ∨ ∃ i ∈ Safety.heardItems s, i.sender = q.number := fun hf q hq => by
    obtain ⟨p, hp, rfl⟩ := List.mem_map.1 hq
    exact .inl ⟨p, hp, (hf p).symm⟩
  cases m with
  | port ht => rw [ht]; exact same
  | leaveDone ht => rw [ht]; exact fun q hq => nomatch hq
  | halt _ _ _ ht => rw [ht]; exact fun q hq => nomatch hq
  | reset ht => rw [ht]; exact fun q hq => nomatch hq
  | refill => exact mapped fun _ => rfl
  | leaveCleared => exact mapped fun _ => rfl
  | frame f => rw [nextFrame_eq]; exact same
  | grantSweep => exact mapped fun _ => rfl
  | ownGrantedReleasing c => rw [ownGrantedReleasing_eq]; exact same
  | newPeer n notice hj hp =>
    intro q hq
    rcases (mem_insertPeer _ q s.peers).1 hq with rfl | hq
    · exact .inr ⟨_, mem_heardItems_of_job hj, rfl⟩
    · exact same q hq
  | report n f hc hf =>
    refine mapped fun p => ?_
    split
    · exact (hf p).1
    · rfl
  | removeStation n b => exact fun q hq => same q (List.mem_of_mem_filter hq)
  | giveBack c again hs => rw [givenBack_eq c again hs]; exact same
  | _ => exact same

/-- The station number changes only where there are no peers. -/
theorem Move.stationNumber {k : MoveKind} (m : Move s₀ k s t) (hoff : NoPeersWhenOff s) :
    t.settings.stationNumber = s.settings.stationNumber ∨ t.peers = [] := by
  cases m with
  | port ht => exact .inl (by rw [ht])
  | write i v hs => exact .inr (hoff (by rw [hs]; rfl)).1
  | leaveDone ht => exact .inr (by rw [ht]; rfl)
  | halt _ _ _ ht => exact .inr (by rw [ht]; rfl)
  | reset ht => exact .inr (by rw [ht]; rfl)
  | frame f => exact .inl (by rw [nextFrame_eq])
  | ownGrantedReleasing c => exact .inl (by rw [ownGrantedReleasing_eq])
  | giveBack c again hs => exact .inl (by rw [givenBack_eq c again hs])
  | _ => exact .inl rfl

theorem Book.find_empty : Book.empty.find n c = none :=
  Book.find_eq_none.2 fun q => by rw [show Book.empty.entry q = none from get_replicate _ q]; rfl

theorem Book.dropKey_empty : Book.empty.dropKey n c = Book.empty := by
  unfold Book.dropKey
  rw [Book.find_empty]

theorem Book.restateKey_empty (st : EntryState) : Book.empty.restateKey n c st = Book.empty := by
  unfold Book.restateKey
  rw [Book.find_empty]

/-- An empty book stays empty off the line. -/
theorem Move.book_off {k : MoveKind} (m : Move s₀ k s t) (hr : s.station.running = false) (hb : s.book = Book.empty)
    (hp : s.peers = []) : t.book = Book.empty := by
  have online : s.station.online = true → t.book = Book.empty := fun ho => by
    rw [StationState.running_of_online ho] at hr
    cases hr
  have unknown : ∀ {n : Nat}, (∃ p ∈ s.peers, p.number = n) → t.book = Book.empty := fun ⟨p, h, _⟩ => by
    rw [hp] at h
    cases h
  have dropped : ∀ {n : Nat} {c : Chan}, s.book.dropKey n c = Book.empty := by
    rw [hb]
    exact Book.dropKey_empty
  have restated : ∀ {n : Nat} {c : Chan} {st : EntryState}, s.book.restateKey n c st = Book.empty := by
    rw [hb]
    exact Book.restateKey_empty _
  cases m with
  | port ht => rw [ht]; exact hb
  | leaveDone ht => rw [ht]; rfl
  | halt _ _ _ ht => rw [ht]; rfl
  | reset ht => rw [ht]; rfl
  | withdraw => exact dropped
  | frame f => rw [nextFrame_eq]; exact hb
  | ownGranted => exact restated
  | ownGrantedReleasing c =>
    rw [ownGrantedReleasing_eq]
    dsimp only
    rw [restated]
    exact Book.restateKey_empty _
  | ownVoid => exact dropped
  | ownVoidAgain => exact dropped
  | ownReleased => exact dropped
  | ownYielded => exact dropped
  | removeStation n b hc h => exact unknown h
  | heardDrop => exact dropped
  | heardAdd n c w wt b hj h => exact unknown h
  | heardAdopt n budget ls b hj h => exact unknown h
  | place c w b hs => exact online hs
  | giveBack c again hs => exact online hs
  | _ => exact hb

/-! ### O5 -/

/-- Settles O5: every move keeps one entry for a key, and each entry as its owner makes it. -/
theorem entriesAlwaysMatchChannelsAndPeers : Obligations.EntriesAlwaysMatchChannelsAndPeers := by
  refine kept_of_moves (fun s₀ k s t m h₀ hi => ?_) fun _ _ hi => hi
  obtain ⟨hk, hmatch, hhas, hplace, hpeers, hheard, hoff⟩ := hi
  have quiet : NoPeersWhenOff s := fun hr => (hoff hr).2
  obtain ⟨hk', hmatch', hhas'⟩ :=
    m.ownersMatch h₀.2.2.2.1 hk hpeers hheard (fun hr => (hoff hr).1) ⟨hmatch, hhas⟩
  refine ⟨hk', hmatch', hhas', m.placementServes hplace, fun q hq => ?_, ?_, fun hr => ?_⟩
  · rcases m.stationNumber quiet with hn | hn
    · rw [hn]
      rcases m.peer_numbers q hq with ⟨p, hp, hpq⟩ | ⟨i, hi, hiq⟩
      · exact hpq ▸ hpeers p hp
      · exact hiq ▸ (hheard i hi).1
    · rw [hn] at hq
      cases hq
  · exact m.admissible (C := fun i => i.notice.wellFormed = true) quiet hheard fun i ha => ha.2.2.2
  · cases hs : s.station.running with
    | true => exact m.stops hs hr
    | false => exact ⟨m.book_off hs (hoff hs).1 (hoff hs).2.1, m.noPeersWhenOff quiet hr⟩

end Sys2Proof.Machine
end

section
/-! PROOFS. One CLAIM or RELEASE for a channel (R80). -/

namespace Sys2Proof.Machine

open Sys2Proof.Safety

variable {s₀ s t : State} {L L' : List (Chan × ChanState)} {st : StationState} {cs cs' : Chan → ChanState}
  {ws ws' : List Chan} {c : Chan}

/-! ### The condition on a list of notices -/

/-- The notices `L` of the channels in the states `cs`, with the waiting withdrawals `ws` (R80). -/
def NoticesLegal (L : List (Chan × ChanState)) (st : StationState) (cs : Chan → ChanState) (ws : List Chan) : Prop :=
  (L.map (fun n => n.1)).Nodup ∧
    (st.online = true → (∀ n ∈ L, cs n.1 = n.2) ∧ ∀ c ∈ ws, cs c = .claiming ∧ ∀ n ∈ L, n.1 ≠ c) ∧
    (st.sends = false → L = [] ∧ ws = [])

/-- Notices leave, and a channel that changes its state has no notice left and no withdrawal waiting. -/
theorem noticesLegal_of (h : NoticesLegal L st cs ws) (hL : L'.Subperm L) (hw : ∀ d ∈ ws', d ∈ ws)
    (hc : st.online = true → ∀ d, cs' d = cs d ∨ (∀ n ∈ L', n.1 ≠ d) ∧ d ∉ ws') : NoticesLegal L' st cs' ws' := by
  obtain ⟨h1, h2, h3⟩ := h
  refine ⟨?_, fun ho => ⟨fun n hn => ?_, fun d hd => ?_⟩, fun hs => ?_⟩
  · obtain ⟨M, hp, hM⟩ := hL
    exact (hp.map (fun n : Chan × ChanState => n.1)).nodup_iff.1 (h1.sublist (hM.map (fun n : Chan × ChanState => n.1)))
  · rcases hc ho n.1 with he | ⟨hno, -⟩
    · rw [he]
      exact (h2 ho).1 n (hL.subset hn)
    · exact absurd rfl (hno n hn)
  · obtain ⟨hcl, hno⟩ := (h2 ho).2 d (hw d hd)
    rcases hc ho d with he | ⟨-, hd'⟩
    · exact ⟨he.trans hcl, fun n hn => hno n (hL.subset hn)⟩
    · exact absurd hd hd'
  · obtain ⟨e1, e2⟩ := h3 hs
    refine ⟨List.eq_nil_iff_forall_not_mem.2 fun n hn => ?_, List.eq_nil_iff_forall_not_mem.2 fun d hd => ?_⟩
    · have := hL.subset hn
      rw [e1] at this
      cases this
    · have := hw d hd
      rw [e2] at this
      cases this

/-- A channel whose notice leaves has no notice left, and no withdrawal of it waits. -/
theorem noNotice_of_cons {x : ChanState} (h : NoticesLegal L st cs ws) (hL : ((c, x) :: L').Subperm L)
    (ho : st.online = true) : (∀ n ∈ L', n.1 ≠ c) ∧ c ∉ ws := by
  have hmem : (c, x) ∈ L := hL.subset List.mem_cons_self
  refine ⟨fun n hn hc => ?_, fun hw => ((h.2.1 ho).2 c hw).2 _ hmem rfl⟩
  obtain ⟨M, hp, hM⟩ := hL
  have nodup := (hp.map (fun n : Chan × ChanState => n.1)).nodup_iff.1 (h.1.sublist (hM.map (fun n : Chan × ChanState => n.1)))
  rw [List.map_cons, List.nodup_cons] at nodup
  exact nodup.1 (List.mem_map.2 ⟨n, hn, hc⟩)

/-- A channel's notice leaves and its withdrawal waits. -/
theorem noticesLegal_wait (h : NoticesLegal L st cs ws) (hL : ((c, .claiming) :: L').Subperm L) :
    NoticesLegal L' st cs (ws ++ [c]) := by
  have less : L'.Subperm L := (List.sublist_cons_self _ _).subperm.trans hL
  have hmem : (c, .claiming) ∈ L := hL.subset List.mem_cons_self
  have left := noticesLegal_of h less (fun _ hd => hd) fun _ _ => .inl rfl
  refine ⟨left.1, fun ho => ⟨(left.2.1 ho).1, fun d hd => ?_⟩, fun hs => ?_⟩
  · rcases List.mem_append.1 hd with hd | hd
    · exact (left.2.1 ho).2 d hd
    · rw [List.mem_singleton.1 hd]
      exact ⟨(h.2.1 ho).1 _ hmem, (noNotice_of_cons h hL ho).1⟩
  · rw [(h.2.2 hs).1] at hmem
    cases hmem

/-- A channel's own notice joins, of its state, where it has none and no withdrawal of it waits. -/
theorem noticesLegal_add (h : NoticesLegal L st cs ws) (hL : L'.Perm ((c, cs c) :: L)) (ho : st.online = true)
    (hn : ∀ n ∈ L, n.1 ≠ c) (hw : c ∉ ws) : NoticesLegal L' st cs ws := by
  obtain ⟨h1, h2, -⟩ := h
  refine ⟨?_, fun _ => ⟨fun n hm => ?_, fun d hd => ⟨((h2 ho).2 d hd).1, fun n hm => ?_⟩⟩, fun hs => ?_⟩
  · rw [(hL.map (fun n : Chan × ChanState => n.1)).nodup_iff, List.map_cons, List.nodup_cons]
    refine ⟨fun hm => ?_, h1⟩
    obtain ⟨n, hm, he⟩ := List.mem_map.1 hm
    exact hn n hm he
  · rcases List.mem_cons.1 (hL.mem_iff.1 hm) with rfl | hm
    · rfl
    · exact (h2 ho).1 n hm
  · rcases List.mem_cons.1 (hL.mem_iff.1 hm) with rfl | hm
    · rintro rfl
      exact hw hd
    · exact ((h2 ho).2 d hd).2 n hm
  · rw [StationState.sends_of_online ho] at hs
    cases hs

/-- The station goes from a state that sends no notice to another, with nothing on its way. -/
theorem noticesLegal_silent {st' : StationState} (h : NoticesLegal L st cs ws) (hs : st.sends = false)
    (hL : L'.Subperm L) : NoticesLegal L' st' cs' ws := by
  obtain ⟨e1, e2⟩ := h.2.2 hs
  rw [e1] at hL
  obtain rfl := List.subperm_nil.1 hL
  rw [e2]
  simp [NoticesLegal]

/-- A channel in none of the states of a notice has none, and no withdrawal of it waits. -/
theorem noNotice_of_state (h : NoticesLegal L st cs ws) (hL : ∀ n ∈ L, n.2 = .claiming ∨ n.2 = .releasing)
    (ho : st.online = true) (h1 : cs c ≠ .claiming) (h2 : cs c ≠ .releasing) : (∀ n ∈ L, n.1 ≠ c) ∧ c ∉ ws := by
  refine ⟨fun n hn hc => ?_, fun hw => h1 ((h.2.1 ho).2 c hw).1⟩
  have hs := (h.2.1 ho).1 n hn
  rw [hc] at hs
  rcases hL n hn with h | h
  · exact h1 (hs.trans h)
  · exact h2 (hs.trans h)

/-! ### The notices of a state -/

/-- The CLAIMs and RELEASEs of a transmit queue. -/
def queued (q : List TxItem) : List (Chan × ChanState) := q.filterMap fun i => bodyServes i.body

/-- The own CLAIMs and RELEASEs among delivered notices. -/
def delivered (l : List RxItem) : List (Chan × ChanState) :=
  (l.filter fun i => i.own).filterMap fun i => noticeServes i.notice

theorem ownChannelNotices_eq : ownChannelNotices s =
    queued s.txQueue ++ (delivered s.rxQueue ++ delivered s.line.phase.acceptedItems ++ delivered (jobItems s.unit.job)) := by
  simp only [ownChannelNotices, receivedItems_eq, queued, delivered, List.filter_append, List.filterMap_append]

theorem mem_delivered {l : List RxItem} {n : Chan × ChanState} :
    n ∈ delivered l → n.2 = .claiming ∨ n.2 = .releasing := by
  intro h
  obtain ⟨i, -, hi⟩ := List.mem_filterMap.1 h
  cases hn : i.notice <;> rw [hn] at hi <;> cases hi
  · exact .inr rfl
  · exact .inl rfl

theorem mem_queued {q : List TxItem} {n : Chan × ChanState} :
    n ∈ queued q → n.2 = .claiming ∨ n.2 = .releasing := by
  intro h
  obtain ⟨i, -, hi⟩ := List.mem_filterMap.1 h
  cases hn : i.body <;> rw [hn] at hi <;> cases hi
  · exact .inr rfl
  · exact .inl rfl

theorem mem_ownChannelNotices {n : Chan × ChanState} (h : n ∈ ownChannelNotices s) :
    n.2 = .claiming ∨ n.2 = .releasing := by
  rw [ownChannelNotices_eq] at h
  simp only [List.mem_append] at h
  rcases h with h | (h | h) | h
  · exact mem_queued h
  all_goals exact mem_delivered h

theorem queued_append (q r : List TxItem) : queued (q ++ r) = queued q ++ queued r := List.filterMap_append

theorem queued_sublist {q r : List TxItem} (h : q.Sublist r) : (queued q).Sublist (queued r) := h.filterMap _

theorem queued_placeTail (b : TxBody) (q : List TxItem) : queued (placeTail b q) = queued q ++ (bodyServes b).toList := by
  rw [placeTail, queued_append]
  cases h : bodyServes b <;> simp [queued, TxItem.new, h]

theorem queued_placeSummary (q : List TxItem) : queued (placeSummary q) = queued q := by
  unfold placeSummary
  split
  · rfl
  · rw [queued_placeTail]
    exact List.append_nil _

theorem queued_placeLeave (q : List TxItem) : queued (placeLeave q) = queued q := by
  unfold placeLeave
  split
  · rfl
  · rw [queued_placeTail]
    exact List.append_nil _

theorem queued_placeSync (f : Nat) (q : List TxItem) : queued (placeSync f q) = queued q := by
  unfold placeSync
  split <;> rfl

theorem queued_placeShed (q : List TxItem) : queued (placeShed q) = queued q := by
  unfold placeShed
  split
  · rfl
  · split
    · split
      · simp only [queued, List.filterMap_cons]
        rfl
      · rfl
    · rfl

theorem queued_keepAttempt (n : Nat) (q : List TxItem) : queued (keepAttempt n q) = queued q := by
  unfold queued keepAttempt
  rw [List.filterMap_map]
  congr 1
  funext i
  simp only [Function.comp_apply]
  split <;> rfl

/-- The item in an attempt and what is left when it goes are together no more than the queue. -/
theorem subperm_dropAttempt {q : List TxItem} {i : TxItem} (hi : attemptItem q = some i) :
    (i :: dropAttempt q).Subperm q := by
  obtain ⟨hatt, before, after, rfl, -⟩ := List.find?_eq_some_iff_append.1 hi
  have : dropAttempt (before ++ i :: after) = dropAttempt before ++ dropAttempt after := by
    rw [dropAttempt, List.filter_append, List.filter_cons]
    simp [hatt, dropAttempt]
  rw [this]
  have sub : (i :: (before ++ after)).Subperm (before ++ i :: after) := List.perm_middle.symm.subperm
  exact (List.Sublist.cons_cons i (List.filter_sublist.append List.filter_sublist)).subperm.trans sub

theorem queued_dropAttempt {q : List TxItem} {i : TxItem} {n : Chan × ChanState} (hi : attemptItem q = some i)
    (hb : bodyServes i.body = some n) : (n :: queued (dropAttempt q)).Subperm (queued q) := by
  obtain ⟨M, hp, hM⟩ := subperm_dropAttempt hi
  have h : (queued (i :: dropAttempt q)).Subperm (queued q) :=
    ⟨M.filterMap fun i => bodyServes i.body, hp.filterMap _, hM.filterMap _⟩
  rwa [queued, List.filterMap_cons, hb] at h

theorem noticeServes_noticeOf (b : TxBody) : noticeServes (s.noticeOf b) = bodyServes b := by cases b <;> rfl

/-! ### The item in an attempt and the notice on the line -/

theorem attemptItem_placeTail (b : TxBody) (q : List TxItem) : attemptItem (placeTail b q) = attemptItem q := by
  simp [attemptItem, placeTail, List.find?_append, TxItem.new]

theorem attemptItem_placeSummary (q : List TxItem) : attemptItem (placeSummary q) = attemptItem q := by
  unfold placeSummary
  split
  · rfl
  · exact attemptItem_placeTail _ q

theorem attemptItem_placeLeave (q : List TxItem) : attemptItem (placeLeave q) = attemptItem q := by
  unfold placeLeave
  split
  · rfl
  · exact attemptItem_placeTail _ q

theorem attemptItem_placeSync (f : Nat) (q : List TxItem) : attemptItem (placeSync f q) = attemptItem q := by
  unfold placeSync
  split <;> rfl

theorem attemptItem_placeShed (q : List TxItem) : attemptItem (placeShed q) = attemptItem q := by
  unfold placeShed
  split
  · rfl
  · split
    · split
      · simp only [attemptItem, List.find?_cons]
        rfl
      · rfl
    · rfl

theorem attemptItem_withdrawItems (p : TxBody → Bool) (q : List TxItem) :
    attemptItem (withdrawItems p q) = attemptItem q := by
  unfold attemptItem withdrawItems
  rw [List.find?_filter]
  congr 1
  funext i
  cases i.inAttempt <;> simp

theorem ownNotice_resting {p : LinePhase} (h : p.resting) : LinePhase.ownNotice p = none := by
  rcases h with rfl | rfl | rfl <;> rfl

/-- The item in an attempt serves what the notice on the line serves. -/
def AttemptNotice (s : State) : Prop :=
  ∀ i ∈ attemptItem s.txQueue, ∀ n ∈ LinePhase.ownNotice s.line.phase, noticeServes n = bodyServes i.body

theorem attemptNotice_of (hi : AttemptNotice s) (hq : attemptItem t.txQueue = attemptItem s.txQueue)
    (hl : LinePhase.ownNotice t.line.phase = LinePhase.ownNotice s.line.phase) : AttemptNotice t := by
  unfold AttemptNotice
  rw [hq, hl]
  exact hi

theorem attemptNotice_none (hl : LinePhase.ownNotice t.line.phase = none) : AttemptNotice t := fun i _ n hn => by
  rw [hl] at hn
  cases hn

/-! ### Every move keeps them -/

/-- The notices of a state, its channels and its waiting withdrawals (R80). -/
def OneNotice (s : State) : Prop :=
  NoticesLegal (ownChannelNotices s) s.station (fun c => (s.chan c).state) s.unit.withdrawals

theorem channelNoticesLegal_iff : ChannelNoticesLegal s ↔ OneNotice s ∧ AttemptNotice s ∧
    (s.unit.leaveWaiting = true → s.station = .leaving) ∧ PlacementServes s := by
  simp only [ChannelNoticesLegal, OneNotice, NoticesLegal, AttemptNotice, attemptItem, and_assoc]

/-- The same notices, station state and withdrawals, and no channel's state changed. -/
theorem oneNotice_of (hi : OneNotice s) (hL : (ownChannelNotices t).Subperm (ownChannelNotices s))
    (hs : t.station = s.station) (hw : ∀ d ∈ t.unit.withdrawals, d ∈ s.unit.withdrawals)
    (hc : s.station.online = true → ∀ d, (t.chan d).state = (s.chan d).state ∨
      (∀ n ∈ ownChannelNotices t, n.1 ≠ d) ∧ d ∉ t.unit.withdrawals) : OneNotice t := by
  unfold OneNotice
  rw [hs]
  exact noticesLegal_of hi hL hw hc

theorem notices_eq (hq : queued t.txQueue = queued s.txQueue) (hr : t.rxQueue = s.rxQueue)
    (hl : delivered t.line.phase.acceptedItems = delivered s.line.phase.acceptedItems)
    (hj : jobItems t.unit.job = jobItems s.unit.job) : ownChannelNotices t = ownChannelNotices s := by
  rw [ownChannelNotices_eq, ownChannelNotices_eq, hq, hr, hl, hj]

theorem notices_subperm {x : List (Chan × ChanState)} (hq : (x ++ queued t.txQueue).Subperm (queued s.txQueue))
    (hr : t.rxQueue = s.rxQueue)
    (hl : (delivered t.line.phase.acceptedItems).Subperm (delivered s.line.phase.acceptedItems))
    (hj : jobItems t.unit.job = jobItems s.unit.job) :
    (x ++ ownChannelNotices t).Subperm (ownChannelNotices s) := by
  rw [ownChannelNotices_eq, ownChannelNotices_eq, hr, hj, ← List.append_assoc]
  exact hq.append (((List.Subperm.refl _).append hl).append (List.Subperm.refl _))

end Sys2Proof.Machine
end

section
/-! PROOFS. Every move keeps one CLAIM or RELEASE for a channel, and the bound on the transmit queue (R80). -/

namespace Sys2Proof.Machine

open Sys2Proof.Safety

variable {s₀ s t : State} {c : Chan}

theorem Move.leaveWaiting {k : MoveKind} (m : Move s₀ k s t) (hi : s.unit.leaveWaiting = true → s.station = .leaving) :
    t.unit.leaveWaiting = true → t.station = .leaving := by
  have elsewhere : s.station ≠ .leaving → s.unit.leaveWaiting = true → t.station = .leaving := fun h hl => absurd (hi hl) h
  cases m with
  | port ht => rw [ht]; exact hi
  | join hs => exact elsewhere (by simp [hs])
  | unjoin hs => exact elsewhere (by simp [hs])
  | leaveDone ht => rw [ht]; exact fun h => nomatch h
  | halt _ _ _ ht => rw [ht]; exact fun h => nomatch h
  | reset ht => rw [ht]; exact fun h => nomatch h
  | desync hs => exact elsewhere (by rintro h; rw [h] at hs; cases hs)
  | rejoin hs => exact elsewhere (by simp [hs])
  | leaveStarted => exact fun _ => rfl
  | leaveCleared => exact fun h => nomatch h
  | frame f => rw [nextFrame_eq]; exact hi
  | listened hs => exact elsewhere (by simp [hs])
  | ownGrantedReleasing c => rw [ownGrantedReleasing_eq]; exact hi
  | giveBack c again hs => rw [givenBack_eq c again hs]; exact hi
  | _ => exact hi

theorem Move.attemptNotice {k : MoveKind} (m : Move s₀ k s t) (hi : AttemptNotice s) : AttemptNotice t := by
  have noAttempt : ∀ {l : LineInterface}, l.phase.resting → LinePhase.ownNotice l.phase = none := ownNotice_resting
  cases m with
  | port ht => rw [ht]; exact hi
  | join => exact attemptNotice_none rfl
  | leaveDone ht => rw [ht]; exact attemptNotice_none rfl
  | halt _ _ _ ht => rw [ht]; exact attemptNotice_none rfl
  | reset ht => rw [ht]; exact attemptNotice_none rfl
  | leaveStarted =>
    exact attemptNotice_of hi ((attemptItem_placeLeave _).trans (attemptItem_withdrawItems _ _)) rfl
  | withdraw c l q ws hc hw =>
    cases hw with
    | queued => exact attemptNotice_of hi (attemptItem_withdrawItems _ _) rfl
    | settled hown hl => exact attemptNotice_none (noAttempt hl)
    | _ => exact hi
  | frame f => rw [nextFrame_eq]; exact hi
  | listened => exact attemptNotice_of hi (attemptItem_placeSummary _) rfl
  | placeShed => exact attemptNotice_of hi (attemptItem_placeShed _) rfl
  | placeSummary => exact attemptNotice_of hi (attemptItem_placeSummary _) rfl
  | placeSync f => exact attemptNotice_of hi (attemptItem_placeSync f _) rfl
  | placeLeave => exact attemptNotice_of hi (attemptItem_placeLeave _) rfl
  | dropSyncs => exact attemptNotice_of hi (attemptItem_withdrawItems _ _) rfl
  | resend => exact attemptNotice_of hi (attemptItem_placeTail _ _) rfl
  | line l hr ho hl =>
    refine attemptNotice_none ?_
    rcases hl with hl | hl | hl | ⟨item, hl, -⟩
    · exact noAttempt hl
    all_goals rw [hl]; rfl
  | accept l item hr hp hl => exact attemptNotice_none (by rw [hl]; rfl)
  | received l item hp hl => exact attemptNotice_none (noAttempt hl)
  | attempt g i rest hs hp hq =>
    intro j hj n hn
    obtain rfl : { i with inAttempt := true } = j := by simpa [attemptItem] using hj
    obtain rfl : s.noticeOf i.body = n := by simpa [LinePhase.ownNotice] using hn
    exact noticeServes_noticeOf i.body
  | echoCell n hp => exact attemptNotice_of hi rfl (by rw [hp]; rfl)
  | attemptKept l count hown hl => exact attemptNotice_none (noAttempt hl)
  | attemptDropped l hown hl => exact attemptNotice_none (noAttempt hl)
  | attemptWithdrawn l i c w wt hown hl => exact attemptNotice_none (noAttempt hl)
  | delivered l n i hp hl => exact attemptNotice_none (noAttempt hl)
  | ownGrantedReleasing c =>
    rw [ownGrantedReleasing_eq]
    refine attemptNotice_of hi ?_ rfl
    dsimp only
    split
    · exact attemptItem_placeTail _ _
    · rfl
  | place => exact attemptNotice_of hi (attemptItem_placeTail _ _) rfl
  | giveBack c again hs =>
    rw [givenBack_eq c again hs]
    exact attemptNotice_of hi (attemptItem_placeTail _ _) rfl
  | _ => exact hi

/-- A CLAIM that waits in the queue goes with the withdrawal of its channel (R58). -/
theorem queued_withdrawClaim {q : List TxItem} (h : claimWaits c q = true) :
    ((c, .claiming) :: queued (withdrawItems (TxBody.isClaimOf c) q)).Subperm (queued q) := by
  obtain ⟨i, hi, hb⟩ := List.any_eq_true.1 h
  simp only [Bool.and_eq_true, Bool.not_eq_true'] at hb
  obtain ⟨hclaim, hatt⟩ := hb
  obtain ⟨before, after, rfl⟩ := List.append_of_mem hi
  have serves : bodyServes i.body = some (c, .claiming) := by
    cases hbody : i.body with
    | claim d w wt =>
      rw [hbody] at hclaim
      simp only [TxBody.isClaimOf, beq_iff_eq] at hclaim
      rw [hclaim]
      rfl
    | _ => rw [hbody] at hclaim; cases hclaim
  have left : withdrawItems (TxBody.isClaimOf c) (before ++ i :: after) =
      withdrawItems (TxBody.isClaimOf c) before ++ withdrawItems (TxBody.isClaimOf c) after := by
    rw [withdrawItems, List.filter_append, List.filter_cons]
    simp [hatt, hclaim, withdrawItems]
  rw [left]
  have sub : (queued (withdrawItems (TxBody.isClaimOf c) before ++ withdrawItems (TxBody.isClaimOf c) after)).Sublist
      (queued (before ++ after)) := queued_sublist (List.filter_sublist.append List.filter_sublist)
  have perm : (queued (before ++ i :: after)).Perm ((c, .claiming) :: queued (before ++ after)) := by
    rw [queued_append, queued_append, show queued (i :: after) = (c, .claiming) :: queued after by
      simp [queued, serves]]
    exact List.perm_middle
  exact (List.Sublist.cons_cons _ sub).subperm.trans perm.symm.subperm

theorem bodyServes_claim {i : TxItem} {w : Window} {wt : Nat} (h : i.body = .claim c w wt) :
    bodyServes i.body = some (c, .claiming) := by rw [h]; rfl

/-- The end of the EVALUATE job of an own CLAIM or RELEASE takes its notice away. -/
theorem notices_evaluated {m : Nat} {notice : Notice} {n : Chan × ChanState}
    (hj : s.unit.job = some (.evaluate ⟨true, m, notice⟩)) (hn : noticeServes notice = some n)
    (hq : t.txQueue = s.txQueue) (hr : t.rxQueue = s.rxQueue) (hl : t.line = s.line) (ht : t.unit.job = none) :
    (n :: ownChannelNotices t).Perm (ownChannelNotices s) := by
  have job : delivered (jobItems s.unit.job) = [n] := by
    rw [hj]
    simp [jobItems, delivered, hn]
  rw [ownChannelNotices_eq, ownChannelNotices_eq, job, ht, hq, hr, hl, show delivered (jobItems none) = [] from rfl,
    List.append_nil, ← List.append_assoc, ← List.append_assoc, ← List.append_assoc]
  exact (List.perm_append_singleton _ _).symm

theorem delivered_append (a b : List RxItem) : delivered (a ++ b) = delivered a ++ delivered b := by
  rw [delivered, List.filter_append, List.filterMap_append]
  rfl

/-- The item an EVALUATE job is granted for only moves from the queue to the job. -/
theorem delivered_granted (item : RxItem) (rest accepted : List RxItem) :
    (delivered rest ++ delivered accepted ++ delivered (jobItems (some (.evaluate item)))).Perm
      (delivered (item :: rest) ++ delivered accepted ++ delivered (jobItems none)) := by
  rw [show item :: rest = [item] ++ rest from rfl, delivered_append [item], show jobItems none = [] from rfl,
    show delivered [] = [] from rfl, List.append_nil, List.append_assoc (delivered [item])]
  exact List.perm_append_comm

/-- An own notice that joins the receive queue leaves the transmit queue. -/
theorem notices_delivered {n : Notice} {i : TxItem} {k : Nat} (hi : attemptItem s.txQueue = some i)
    (hs : noticeServes n = bodyServes i.body) (hq : t.txQueue = dropAttempt s.txQueue)
    (hr : t.rxQueue = s.rxQueue ++ [⟨true, k, n⟩]) (hl : t.line.phase.acceptedItems = [])
    (hj : t.unit.job = s.unit.job) : (ownChannelNotices t).Subperm (ownChannelNotices s) := by
  have one : delivered [⟨true, k, n⟩] = (bodyServes i.body).toList := by
    rw [← hs]
    cases h : noticeServes n <;> simp [delivered, h]
  have queue : ((bodyServes i.body).toList ++ queued (dropAttempt s.txQueue)).Subperm (queued s.txQueue) := by
    cases h : bodyServes i.body with
    | none => exact (queued_sublist List.filter_sublist).subperm
    | some x => exact queued_dropAttempt hi h
  rw [ownChannelNotices_eq, ownChannelNotices_eq, hq, hr, hl, hj, delivered_append, one, show delivered [] = [] from rfl,
    List.append_nil, ← List.append_assoc, ← List.append_assoc, ← List.append_assoc, ← List.append_assoc]
  refine List.Subperm.append ?_ (List.Subperm.refl _)
  have moved : (queued (dropAttempt s.txQueue) ++ delivered s.rxQueue ++ (bodyServes i.body).toList).Perm
      ((bodyServes i.body).toList ++ queued (dropAttempt s.txQueue) ++ delivered s.rxQueue) := by
    rw [List.append_assoc (bodyServes i.body).toList]
    exact List.perm_append_comm
  exact moved.subperm.trans ((queue.append (List.Subperm.refl _)).trans (List.sublist_append_left _ _).subperm)

/-- A notice of a channel's state joins the queue's tail, where the channel has none. -/
theorem oneNotice_add {y : State} {b : TxBody} (hy : OneNotice y) (ho : y.station.online = true)
    (hno : (∀ n ∈ ownChannelNotices y, n.1 ≠ c) ∧ c ∉ y.unit.withdrawals) (hq : t.txQueue = placeTail b y.txQueue)
    (hr : t.rxQueue = y.rxQueue) (hl : t.line = y.line) (hu : t.unit = y.unit) (hs : t.station = y.station)
    (hc : ∀ d, (t.chan d).state = (y.chan d).state) (hb : bodyServes b = some (c, (y.chan c).state)) : OneNotice t := by
  have hL : (ownChannelNotices t).Perm ((c, (y.chan c).state) :: ownChannelNotices y) := by
    rw [ownChannelNotices_eq, ownChannelNotices_eq, hq, hr, hl, hu, queued_placeTail, hb, List.append_assoc]
    exact List.perm_middle
  unfold OneNotice
  rw [hs, hu]
  simp only [hc]
  exact noticesLegal_add hy hL ho hno.1 hno.2

theorem oneNotice_of_move {k : MoveKind} (m : Move s₀ k s t) (h₀ : ChannelNoticesLegal s₀)
    (hatt : AttemptNotice s) (hwait : s.unit.leaveWaiting = true → s.station = .leaving) (hi : OneNotice s) :
    OneNotice t := by
  have hp₀ := h₀.2.2.2.2.2
  have serves : ∀ n ∈ ownChannelNotices s, n.2 = .claiming ∨ n.2 = .releasing := fun _ => mem_ownChannelNotices
  have refl : (ownChannelNotices s).Subperm (ownChannelNotices s) := List.Subperm.refl _
  have silent : s.station.sends = false → (ownChannelNotices t).Subperm (ownChannelNotices s) →
      t.unit.withdrawals = s.unit.withdrawals → OneNotice t := fun hs hL hw => by
    unfold OneNotice
    rw [hw]
    exact noticesLegal_silent hi hs hL
  have gone : t.txQueue = [] → t.rxQueue = [] → t.line = LineInterface.quiet → t.unit = TableUnit.free → OneNotice t :=
    fun h1 h2 h3 h4 => by
      have hL : ownChannelNotices t = [] := by
        rw [ownChannelNotices_eq, h1, h2, h3, h4]
        rfl
      simp [OneNotice, NoticesLegal, hL, h4, TableUnit.free]
  -- the same notices, with some leaving
  have fewer : (ownChannelNotices t).Subperm (ownChannelNotices s) → t.station = s.station →
      t.unit.withdrawals = s.unit.withdrawals → t.channels = s.channels → OneNotice t := fun hL hs hw hc =>
    oneNotice_of hi hL hs (fun d hd => hw ▸ hd) fun _ d => .inl (by rw [State.chan_congr hc])
  have sameNotices : queued t.txQueue = queued s.txQueue → t.rxQueue = s.rxQueue →
      delivered t.line.phase.acceptedItems = delivered s.line.phase.acceptedItems →
      jobItems t.unit.job = jobItems s.unit.job → t.station = s.station →
      t.unit.withdrawals = s.unit.withdrawals → t.channels = s.channels → OneNotice t := fun h1 h2 h3 h4 h5 h6 h7 =>
    fewer (by rw [notices_eq h1 h2 h3 h4]) h5 h6 h7
  -- one channel in another state, with no notice of it left
  have changed : ∀ {x : State} {c : Chan} {ch : Channel}, (ownChannelNotices x).Subperm (ownChannelNotices s) →
      x.station = s.station → (∀ d ∈ x.unit.withdrawals, d ∈ s.unit.withdrawals) → x.channels = s.channels →
      (s.station.online = true → (∀ n ∈ ownChannelNotices x, n.1 ≠ c) ∧ c ∉ x.unit.withdrawals) →
      OneNotice (x.setChan c ch) := fun {x c ch} hL hs hw hx hc =>
    oneNotice_of hi hL hs hw fun ho d => by
      rw [State.setChan_chan]
      by_cases hd : d = c
      · rw [hd]
        exact .inr (hc ho)
      · rw [if_neg hd, State.chan_congr hx]
        exact .inl rfl
  -- a channel that has no notice, its state being that of none
  have without : ∀ {c : Chan}, (s.chan c).state ≠ .claiming → (s.chan c).state ≠ .releasing →
      s.station.online = true → (∀ n ∈ ownChannelNotices s, n.1 ≠ c) ∧ c ∉ s.unit.withdrawals :=
    fun h1 h2 ho => noNotice_of_state hi serves ho h1 h2
  -- a notice of a channel's new state at the tail
  have added : ∀ {x : State} {c : Chan} {ch : Channel} {b : TxBody}, x.txQueue = placeTail b s.txQueue →
      x.rxQueue = s.rxQueue → x.line = s.line → x.unit = s.unit → x.station = s.station → x.channels = s.channels →
      bodyServes b = some (c, ch.state) → s.station.online = true →
      (∀ n ∈ ownChannelNotices s, n.1 ≠ c) ∧ c ∉ s.unit.withdrawals → OneNotice (x.setChan c ch) :=
    fun {x c ch b} h1 h2 h3 h4 h5 h6 hb ho hno =>
      oneNotice_add (changed (x := s) (c := c) (ch := ch) refl rfl (fun _ hd => hd) rfl fun _ => hno) ho hno h1 h2 h3 h4 h5
        (fun d => by rw [State.setChan_chan, State.setChan_chan, State.chan_congr h6])
        (by rw [State.setChan_chan, if_pos rfl]; exact hb)
  -- the EVALUATE job of an own CLAIM or RELEASE ends, its channel going on as it may
  have evaluated : ∀ {x : State} {c : Chan} {ch : Channel} {m : Nat} {notice : Notice} {st : ChanState},
      s.unit.job = some (.evaluate ⟨true, m, notice⟩) → noticeServes notice = some (c, st) → x.txQueue = s.txQueue →
      x.rxQueue = s.rxQueue → x.line = s.line → x.unit = { s.unit with job := none } → x.station = s.station →
      x.channels = s.channels → OneNotice (x.setChan c ch) := fun {x c ch m notice st} hj hn h1 h2 h3 h4 h5 h6 => by
    have hL := notices_evaluated hj hn h1 h2 h3 (by rw [h4])
    refine changed ((List.sublist_cons_self _ _).subperm.trans hL.subperm) h5 (fun d hd => by rw [h4] at hd; exact hd) h6
      fun ho => ?_
    rw [h4]
    exact noNotice_of_cons hi hL.subperm ho
  have quieter : ∀ {l : LineInterface}, l.phase.acceptedItems = [] →
      (delivered l.phase.acceptedItems).Subperm (delivered s.line.phase.acceptedItems) := fun h => by
    rw [h]
    exact List.nil_subperm
  have dropped : (queued (dropAttempt s.txQueue)).Subperm (queued s.txQueue) :=
    (queued_sublist List.filter_sublist).subperm
  have noItems : ∀ {l : LineInterface}, l.phase.resting → l.phase.acceptedItems = [] := acceptedItems_resting
  have sameStates : t.txQueue = s.txQueue → t.rxQueue = s.rxQueue → t.line = s.line → t.unit = s.unit →
      t.station = s.station → (∀ d, (t.chan d).state = (s.chan d).state) → OneNotice t := fun h1 h2 h3 h4 h5 h6 => by
    have hL : ownChannelNotices t = ownChannelNotices s := notices_eq (by rw [h1]) h2 (by rw [h3]) (by rw [h4])
    exact oneNotice_of hi (hL ▸ refl) h5 (fun d hd => h4 ▸ hd) fun _ d => .inl (h6 d)
  cases m with
  | port ht => rw [ht]; exact hi
  | leaveDone ht => exact gone (by rw [ht]; rfl) (by rw [ht]; rfl) (by rw [ht]; rfl) (by rw [ht]; rfl)
  | halt _ _ _ ht => exact gone (by rw [ht]; rfl) (by rw [ht]; rfl) (by rw [ht]; rfl) (by rw [ht]; rfl)
  | reset ht => exact gone (by rw [ht]; rfl) (by rw [ht]; rfl) (by rw [ht]; rfl) (by rw [ht]; rfl)
  | outcome c =>
    refine sameStates rfl rfl rfl rfl rfl fun d => ?_
    rw [State.setChan_chan]
    split
    · next h => rw [h]
    · rfl
  | join hs =>
    exact silent (by rw [hs]; rfl) (notices_subperm (x := []) (List.Subperm.refl _) rfl (quieter (l := LineInterface.quiet) rfl) rfl) rfl
  | unjoin hs => exact silent (by rw [hs]; rfl) refl rfl
  | desync hs =>
    exact ⟨hi.1, fun _ => hi.2.1 hs, fun h => nomatch h⟩
  | refill => exact hi
  | refillDropped => exact hi
  | rejoin hs => exact ⟨hi.1, fun _ => hi.2.1 (by rw [hs]; rfl), fun h => nomatch h⟩
  | leaveStarted hs =>
    have hq : (queued (placeLeave (withdrawItems TxBody.endsAtLeave s.txQueue))).Subperm (queued s.txQueue) := by
      rw [queued_placeLeave]
      exact (queued_sublist List.filter_sublist).subperm
    have hL : (ownChannelNotices s.leaveStarted).Subperm (ownChannelNotices s) :=
      notices_subperm (x := []) hq rfl (List.Subperm.refl _) rfl
    have left := noticesLegal_of hi hL (fun _ hd => hd) fun _ d => .inl (rfl : (s.chan d).state = (s.chan d).state)
    exact ⟨left.1, (fun h => by cases h), (fun h => by cases h)⟩
  | dropPlacing c hc =>
    exact changed (x := s) refl rfl (fun _ hd => hd) rfl (without (by simp [hc hp₀]) (by simp [hc hp₀]))
  | withdraw c l q ws hc hw =>
    cases hw with
    | asked h =>
      refine changed (x := { s with book := _, unit := _ }) refl rfl (fun d hd => List.mem_of_mem_filter hd) rfl
        fun ho => ⟨((hi.2.1 ho).2 c h).2, by simp⟩
    | leaving h =>
      refine changed (x := { s with book := _ }) refl rfl (fun _ hd => hd) rfl fun ho => ?_
      rw [hwait h] at ho
      cases ho
    | queued h =>
      have hL : ((c, ChanState.claiming) :: ownChannelNotices { s with
          txQueue := withdrawItems (TxBody.isClaimOf c) s.txQueue }).Subperm (ownChannelNotices s) :=
        notices_subperm (x := [(c, .claiming)]) (queued_withdrawClaim h) rfl (List.Subperm.refl _) rfl
      exact changed (x := { s with book := _, txQueue := withdrawItems (TxBody.isClaimOf c) s.txQueue })
        ((List.sublist_cons_self _ _).subperm.trans hL) rfl (fun _ hd => hd) rfl fun ho => noNotice_of_cons hi hL ho
    | @settled l i w wt hown hl hit hb =>
      have hL : ((c, ChanState.claiming) :: ownChannelNotices { s with
          line := l, txQueue := dropAttempt s.txQueue }).Subperm (ownChannelNotices s) :=
        notices_subperm (x := [(c, .claiming)]) (queued_dropAttempt hit (bodyServes_claim hb)) rfl (quieter (noItems hl)) rfl
      exact changed (x := { s with book := _, line := l, txQueue := dropAttempt s.txQueue })
        ((List.sublist_cons_self _ _).subperm.trans hL) rfl (fun _ hd => hd) rfl fun ho => noNotice_of_cons hi hL ho
  | notWithdrawn c =>
    exact oneNotice_of hi refl rfl (fun d hd => List.mem_of_mem_filter hd) fun _ d => .inl rfl
  | clearMarks c =>
    refine sameStates rfl rfl rfl rfl rfl fun d => ?_
    rw [State.modChan_chan]
    split
    · next h => rw [h]
    · rfl
  | mark c =>
    refine sameStates rfl rfl rfl rfl rfl fun d => ?_
    rw [State.modChan_chan]
    split
    · next h => rw [h]
    · rfl
  | shedStarted =>
    refine sameStates rfl rfl rfl rfl rfl fun d => ?_
    rw [shedStarted_chan]
    split <;> rfl
  | shedOver => exact sameStates rfl rfl rfl rfl rfl fun d => by rw [State.cancelShed_chan]
  | frame f =>
    refine sameStates (by rw [nextFrame_eq]) (by rw [nextFrame_eq]) (by rw [nextFrame_eq]) (by rw [nextFrame_eq])
      (by rw [nextFrame_eq]) fun d => ?_
    rw [nextFrame_chan]
    split <;> rfl
  | listened hs =>
    exact silent (by rw [hs]; rfl) (notices_subperm (x := []) (by
      rw [List.nil_append, queued_placeSummary]) rfl (List.Subperm.refl _) rfl) rfl
  | placeShed =>
    exact sameNotices (queued_placeShed _) rfl rfl rfl rfl rfl rfl
  | placeSummary =>
    exact sameNotices (queued_placeSummary _) rfl rfl rfl rfl rfl rfl
  | placeSync f =>
    exact sameNotices (queued_placeSync f _) rfl rfl rfl rfl rfl rfl
  | placeLeave =>
    exact sameNotices (queued_placeLeave _) rfl rfl rfl rfl rfl rfl
  | dropSyncs =>
    exact fewer (notices_subperm (x := []) (queued_sublist List.filter_sublist).subperm rfl (List.Subperm.refl _) rfl)
      rfl rfl rfl
  | resend b c st hb hc hs hn =>
    have hL : (ownChannelNotices { s with txQueue := placeTail b s.txQueue }).Perm
        ((c, (s.chan c).state) :: ownChannelNotices s) := by
      rw [ownChannelNotices_eq, ownChannelNotices_eq, hc]
      dsimp only
      rw [queued_placeTail, hb, List.append_assoc]
      exact List.perm_middle
    exact noticesLegal_add hi hL hs (hn h₀).1 (hn h₀).2
  | line l hr ho hl =>
    refine fewer (notices_subperm (x := []) (List.Subperm.refl _) rfl (quieter ?_) rfl) rfl rfl rfl
    rcases hl with hl | hl | hl | ⟨item, hl, -⟩
    · exact noItems hl
    all_goals rw [hl]; rfl
  | accept l item hr hp hl hroom hown =>
    refine fewer (notices_subperm (x := []) (List.Subperm.refl _) rfl ?_ rfl) rfl rfl rfl
    have none : delivered l.phase.acceptedItems = [] := by
      rw [hl]
      simp [LinePhase.acceptedItems, delivered, hown]
    exact none ▸ List.nil_subperm
  | received l item hp hl =>
    refine fewer ?_ rfl rfl rfl
    rw [ownChannelNotices_eq, ownChannelNotices_eq, hp]
    dsimp only
    rw [noItems hl]
    rw [delivered_append, show delivered [] = [] from rfl, List.append_nil]
    exact List.Subperm.refl _
  | attempt g i rest hs hp hq =>
    refine fewer (notices_subperm (x := []) ?_ rfl (quieter (l := ⟨.sending _, _, _⟩) rfl) rfl) rfl rfl rfl
    rw [List.nil_append, hq]
    exact List.Subperm.refl _
  | echoCell n hp =>
    have none := quieter (l := ⟨.ownEcho n s.receiveRoom, 0, 0⟩) rfl
    exact fewer (notices_subperm (x := []) (List.Subperm.refl _) rfl none rfl) rfl rfl rfl
  | attemptKept l count hown hl =>
    exact fewer (notices_subperm (x := []) (by rw [List.nil_append, queued_keepAttempt]) rfl (quieter (noItems hl)) rfl)
      rfl rfl rfl
  | attemptDropped l hown hl =>
    exact fewer (notices_subperm (x := []) dropped rfl (quieter (noItems hl)) rfl) rfl rfl rfl
  | attemptWithdrawn l i c w wt hown hl hit hb =>
    have hL : ((c, ChanState.claiming) :: ownChannelNotices { s with
        line := l, txQueue := dropAttempt s.txQueue }).Subperm (ownChannelNotices s) :=
      notices_subperm (x := [(c, .claiming)]) (queued_dropAttempt hit (bodyServes_claim hb)) rfl (quieter (noItems hl)) rfl
    exact noticesLegal_wait hi hL
  | delivered l n i hp hl hit =>
    refine fewer ?_ rfl rfl rfl
    have serves : noticeServes n = bodyServes i.body := hatt i hit n (by rw [hp]; rfl)
    exact notices_delivered hit serves rfl rfl (noItems hl) rfl
  | grantEvaluate item rest hj hq =>
    refine fewer ?_ rfl rfl rfl
    rw [ownChannelNotices_eq, ownChannelNotices_eq, hq, hj]
    exact (List.Perm.append_left _ (delivered_granted item rest _)).subperm
  | grantSweep hj => exact sameNotices rfl rfl rfl (by rw [hj]; rfl) rfl rfl rfl
  | grantHost tk hj => exact sameNotices rfl rfl rfl (by rw [hj]; rfl) rfl rfl rfl
  | grantPlacement c hj => exact sameNotices rfl rfl rfl (by rw [hj]; rfl) rfl rfl rfl
  | jobOver =>
    refine fewer ?_ rfl rfl rfl
    rw [ownChannelNotices_eq, ownChannelNotices_eq]
    exact (((List.nil_sublist (delivered (jobItems s.unit.job))).append_left _).append_left _).subperm
  | lossNoted lost hj => exact sameNotices rfl rfl rfl (by rw [hj]; rfl) rfl rfl rfl
  | ownGranted c n w wt hj =>
    exact evaluated (x := { s with unit := _, book := _, grants := _ }) hj rfl rfl rfl rfl rfl rfl rfl
  | ownGrantedReleasing c n w wt hj =>
    rw [ownGrantedReleasing_eq]
    have after : OneNotice (State.setChan c { s.chan c with state := .releasing, releasePending := false }
        { s with unit := { s.unit with job := none } }) :=
      evaluated (x := { s with unit := { s.unit with job := none } }) hj rfl rfl rfl rfl rfl rfl rfl
    split
    · next ho =>
      have hL := notices_evaluated (t := { s with unit := { s.unit with job := none } }) hj rfl rfl rfl rfl rfl
      exact oneNotice_add (b := .release c) after ho (noNotice_of_cons hi hL.subperm ho) rfl rfl rfl rfl rfl
        (fun d => by rfl) (by rw [State.setChan_chan, if_pos rfl]; rfl)
    · exact after
  | ownVoid c n w wt hj =>
    exact evaluated (x := { s with unit := _, book := _, grants := _ }) hj rfl rfl rfl rfl rfl rfl rfl
  | ownVoidAgain c n w wt hj =>
    exact evaluated (x := { s with unit := _, book := _, grants := _ }) hj rfl rfl rfl rfl rfl rfl rfl
  | ownReleased c n hj =>
    exact evaluated (x := { s with unit := _, book := _, grants := _ }) hj rfl rfl rfl rfl rfl rfl rfl
  | ownYielded c n hj =>
    exact evaluated (x := { s with unit := _, book := _, grants := _ }) hj rfl rfl rfl rfl rfl rfl rfl
  | request c mode start len hs hc =>
    exact changed (x := s) refl rfl (fun _ hd => hd) rfl (without (by simp [hc]) (by simp [hc]))
  | number c =>
    refine sameStates rfl rfl rfl rfl rfl fun d => ?_
    rw [State.modChan_chan]
    split
    · next h => rw [h]; rfl
    · rfl
  | place c w b hs hc =>
    exact added (x := { s with book := b, txQueue := placeTail (.claim c w (s.settings.weight.get c)) s.txQueue })
      rfl rfl rfl rfl rfl rfl rfl hs (without (by simp [hc hp₀]) (by simp [hc hp₀]) hs)
  | giveBack c again hs hc =>
    rw [givenBack_eq c again hs]
    exact added (x := { s with book := _, driven := _, txQueue := placeTail (.release c) s.txQueue })
      rfl rfl rfl rfl rfl rfl rfl hs (without (by simp [hc]) (by simp [hc]) hs)
  | _ => exact hi

/-! ### The bound on the transmit queue -/

theorem queued_channels_nodup (h : OneNotice s) : ((queued s.txQueue).map fun n => n.1).Nodup := by
  refine h.1.sublist (List.Sublist.map _ ?_)
  rw [ownChannelNotices_eq]
  exact List.sublist_append_left _ _

/-- Every item is of a kind that comes once or is a channel's notice. -/
theorem length_le_kinds (q : List TxItem) : q.length ≤ (queued q).length + (q.countP (fun i => i.body.isSync) +
    q.countP (fun i => i.body.isShed) + q.countP (fun i => i.body.isSummary) + q.countP (fun i => i.body.isLeave)) := by
  induction q with
  | nil => exact Nat.zero_le _
  | cons i q ih =>
    rw [show queued (i :: q) = (bodyServes i.body).toList ++ queued q by
      rw [show i :: q = [i] ++ q from rfl, queued_append]
      cases h : bodyServes i.body <;> simp [queued, h]]
    simp only [List.length_cons, List.length_append, List.countP_cons]
    have one : 1 ≤ (bodyServes i.body).toList.length + ((if i.body.isSync then 1 else 0) +
        (if i.body.isShed then 1 else 0) + (if i.body.isSummary then 1 else 0) + if i.body.isLeave then 1 else 0) := by
      cases i.body <;> exact Nat.le_refl 1
    omega

theorem countP_channel_le {q : List TxItem} (h : ((queued q).map fun n => n.1).Nodup) (c : Chan) :
    q.countP (fun i => (bodyServes i.body).any fun n => n.1 == c) ≤ 1 := by
  have count : q.countP (fun i => (bodyServes i.body).any fun n => n.1 == c) =
      ((queued q).map fun n => n.1).count c := by
    rw [queued, List.map_filterMap, List.count, List.countP_filterMap]
    congr 1
    funext i
    cases bodyServes i.body <;> rfl
  exact count ▸ List.nodup_iff_count_le_one.1 h c

/-! ### O10 -/

/-- Settles O10: every move keeps one notice for a channel, and the channels are eight. -/
theorem eachChannelHasOneNotice : Obligations.EachChannelHasOneNotice := by
  refine ⟨kept_of_moves (fun s₀ k s t m h₀ hi => ?_) fun _ _ hi => hi, fun s hq hi => ?_⟩
  · obtain ⟨hone, hatt, hwait, hplace⟩ := channelNoticesLegal_iff.1 hi
    exact channelNoticesLegal_iff.2 ⟨oneNotice_of_move m h₀ hatt hwait hone, m.attemptNotice hatt, m.leaveWaiting hwait,
      m.placementServes hplace⟩
  · have nodup := queued_channels_nodup (channelNoticesLegal_iff.1 hi).1
    refine ⟨?_, countP_channel_le nodup⟩
    have eight : (queued s.txQueue).length ≤ 8 := by
      simpa using nodup.length_le_card
    obtain ⟨-, hsync, hshed, hsummary, hleave, -⟩ := hq
    have kinds := length_le_kinds s.txQueue
    omega

end Sys2Proof.Machine
end

section
/-! PROOFS. What every command leaves: the queue of commands, the settings, the event flags; and what enters HALTED and
asserts outputs. -/

namespace Sys2Proof.Machine

open Sys2Proof.Safety

variable {s₀ s t : State} {P : MoveKind → Prop} {c : Chan} {cause : HaltCause}

/-! ### Rules over every move -/

theorem Move.pending {k : MoveKind} (m : Move s₀ k s t) : t.pending = s.pending := by
  cases m with
  | port ht => rw [ht]
  | leaveDone ht => rw [ht]; rfl
  | halt _ _ _ ht => rw [ht]; rfl
  | reset ht => rw [ht]
  | frame f => rw [nextFrame_eq]
  | giveBack c again hs => rw [givenBack_eq c again hs]
  | ownGrantedReleasing c => rw [ownGrantedReleasing_eq]
  | _ => rfl

/-- A flag that is set stays set, but for the end of a flag byte and a reset (R178). -/
theorem Move.flags {k : MoveKind} (m : Move s₀ k s t) (hk : k ≠ .clears) (n : Nat)
    (h : s.events.flags.getLsbD n = true) : t.events.flags.getLsbD n = true := by
  cases m with
  | port ht hf =>
    rcases hf with ⟨-, hf⟩ | hf
    · exact hf n h
    · exact absurd hf hk
  | leaveDone ht hd => exact hd.2 n h
  | halt _ _ _ ht hd => exact hd.2 n h
  | reset => exact absurd rfl hk
  | frame f => rw [nextFrame_eq]; exact h
  | giveBack c again hs => rw [givenBack_eq c again hs]; exact h
  | ownGrantedReleasing c => rw [ownGrantedReleasing_eq]; exact h
  | _ => exact h

/-- The station stays UNJOINED but for the moves that start and stop the Frame Timer. -/
theorem Move.unjoined {k : MoveKind} (m : Move s₀ k s t) (hk : k ≠ .tick) (h : s.station = .unjoined) :
    t.station = .unjoined := by
  have off : ∀ {p : Prop}, s.station.online = true → p := fun ho => by rw [h] at ho; cases ho
  have elsewhere : ∀ {st : StationState} {p : Prop}, s.station = st → st ≠ .unjoined → p := fun hs hn =>
    absurd (hs.symm.trans h) hn
  cases m with
  | port ht => rw [ht]; exact h
  | join => exact absurd rfl hk
  | unjoin => exact absurd rfl hk
  | leaveDone => exact absurd rfl hk
  | halt cause _ hr => rw [h] at hr; cases hr
  | reset ht => rw [ht]; rfl
  | desync hs => exact off hs
  | rejoin hs => exact elsewhere hs (by simp)
  | leaveStarted hs => exact off hs
  | frame f => rw [nextFrame_eq]; exact h
  | listened hs => exact elsewhere hs (by simp)
  | giveBack c again hs => exact off hs
  | ownGrantedReleasing c => rw [ownGrantedReleasing_eq]; exact h
  | _ => exact h

/-- The settings change in runs that end UNJOINED alone (R136). -/
theorem Moves.settled (hP : ∀ k, P k → k ≠ .tick) (h : Moves s₀ P s t) :
    t.station = .unjoined ∨ t.settings = s.settings := by
  refine h.keeps (inv := fun x => x.station = .unjoined ∨ x.settings = s.settings) (fun k x y hk m hx => ?_) (.inr rfl)
  rcases hx with hx | hx
  · exact .inl (m.unjoined (hP k hk) hx)
  · by_cases hw : k ≠ .write ∧ k ≠ .clears
    · exact .inr ((m.settings hw).trans hx)
    · cases m with
      | port ht => exact .inr (by rw [ht]; exact hx)
      | write id v hs => exact .inl hs
      | reset ht => exact .inl (by rw [ht]; rfl)
      | frame f => exact .inr (by rw [nextFrame_eq]; exact hx)
      | jobOver => exact .inr hx
      | _ => simp at hw

/-- A HALTED station was halted by a cause in `C`, and its event is set but where a flag may have been cleared (R145). -/
def HaltedBy (C : HaltCause → Prop) (cleared : Prop) (s : State) : Prop :=
  s.station = .halted → C s.haltCause ∧ (s.events.isSet .halted = true ∨ cleared)

theorem Move.haltedBy {k : MoveKind} {C : HaltCause → Prop} {cleared : Prop} (m : Move s₀ k s t)
    (hk : k = .clears → cleared) (hc : ∀ c, k = .halt c → C c) (h : HaltedBy C cleared s) : HaltedBy C cleared t := by
  have elsewhere : t.station ≠ .halted → HaltedBy C cleared t := fun hn hs => absurd hs hn
  cases m with
  | port ht hf =>
    intro hs
    have before := h (by rw [ht] at hs; exact hs)
    refine ⟨by rw [ht]; exact before.1, ?_⟩
    rcases hf with ⟨-, hf⟩ | hf
    · exact before.2.imp_left (hf _)
    · exact .inr (hk hf)
  | join => exact elsewhere (by simp [State.startListening])
  | unjoin => exact elsewhere (by simp)
  | leaveDone ht => exact elsewhere (by rw [ht]; simp)
  | halt cause' hn hr ht hd he => exact fun _ => ⟨by rw [ht]; exact hc _ rfl, .inl he⟩
  | reset ht => exact elsewhere (by rw [ht]; simp [State.reset])
  | desync => exact elsewhere (by simp)
  | rejoin => exact elsewhere (by simp)
  | leaveStarted => exact elsewhere (by rw [leaveStarted_eq]; simp)
  | listened => exact elsewhere (by simp)
  | frame f => rw [nextFrame_eq]; exact h
  | giveBack c again hs => rw [givenBack_eq c again hs]; exact h
  | ownGrantedReleasing c => rw [ownGrantedReleasing_eq]; exact h
  | _ => exact h

/-- No move but a slice boundary's and a frame start's asserts an output (R67). -/
theorem Move.driven_le {k : MoveKind} (m : Move s₀ k s t) (hk : k ≠ .slice ∧ ∀ f, k ≠ .frame f)
    (h : t.driven.get c = true) : s.driven.get c = true := by
  have dark : t.driven = Vector.replicate 8 false → s.driven.get c = true := fun hd => by
    rw [hd, get_replicate] at h
    cases h
  have trimmed : ∀ {b : Bool}, t.driven.get c = (s.driven.get c && b) → s.driven.get c = true := fun hb => by
    rw [hb, Bool.and_eq_true] at h
    exact h.1
  cases m with
  | port ht => rw [ht] at h; exact h
  | leaveDone ht => exact dark (by rw [ht]; rfl)
  | halt _ _ _ ht => exact dark (by rw [ht]; rfl)
  | reset ht => exact dark (by rw [ht]; rfl)
  | leaveStarted => exact dark rfl
  | shedStarted => exact trimmed (shedStarted_driven c)
  | slice => exact absurd rfl hk.1
  | frame f hr hf hkind =>
    rcases hkind with hf | ⟨-, ho, hl⟩
    · exact absurd hf (hk.2 f)
    · have off : (s.nextFrame f).driven.get c = false := by
        rw [nextFrame_driven, nextFrame_chan, ho]
        simp [Channel.drives, hl c]
      rw [off] at h
      cases h
  | giveBack d again hs => exact trimmed (givenBack_driven d c again)
  | ownGrantedReleasing d => rw [ownGrantedReleasing_eq] at h; exact h
  | _ => exact h

/-- A calm move leaves the place in the frame. -/
theorem Move.place_of_calm (m : Move s₀ .calm s t) : t.timer.slice = s.timer.slice ∧ t.timer.hold = s.timer.hold ∧
    t.timer.frame = s.timer.frame := by
  cases m with
  | port ht => rw [ht]; exact ⟨rfl, rfl, rfl⟩
  | frame f _ _ hkind => rcases hkind with h | ⟨h, -⟩ <;> cases h
  | giveBack c again hs => rw [givenBack_eq c again hs]; exact ⟨rfl, rfl, rfl⟩
  | _ => exact ⟨rfl, rfl, rfl⟩

/-- At a frame start a run may assert outputs, at slice 0 of its frame (R41, R45, R48). -/
theorem Moves.asserted {C : Nat → Prop} (h : Moves s₀ (FrameKind C) s t) (hs : s.driven.get c = false)
    (ht : t.driven.get c = true) : t.timer.slice = 0 ∧ t.timer.hold = false ∧ C t.timer.frame := by
  refine h.keeps (inv := fun x => x.driven.get c = true → x.timer.slice = 0 ∧ x.timer.hold = false ∧ C x.timer.frame)
    (fun k x y hk m hx hy => ?_) (fun hs' => absurd (hs.symm.trans hs') (by simp)) ht
  rcases hk with rfl | ⟨f, rfl, hC⟩
  · obtain ⟨h1, h2, h3⟩ := m.place_of_calm
    rw [h1, h2, h3]
    exact hx (m.driven_le (by simp) hy)
  · cases m with
    | frame f' _ _ hkind =>
      rcases hkind with hf | ⟨hf, -⟩
      · cases hf
        rw [nextFrame_eq]
        exact ⟨rfl, rfl, hC⟩
      · cases hf
    | port _ hf => rcases hf with ⟨hf, -⟩ | hf <;> cases hf
    | jobOver hf => rcases hf with ⟨hf, -⟩ | hf <;> cases hf

/-- A run with no slice boundary and no frame start asserts no output. -/
theorem Moves.driven_le (hP : ∀ k, P k → k ≠ .slice ∧ ∀ f, k ≠ .frame f) (h : Moves s₀ P s t)
    (ht : t.driven.get c = true) : s.driven.get c = true :=
  h.keeps (inv := fun x => x.driven.get c = true → s.driven.get c = true)
    (fun k _ _ hk m hx hy => hx (m.driven_le (hP k hk) hy)) id ht

/-! ### The taking of a command, and the rows -/

theorem take_settled (cmd : HostCmd) : (s.take cmd).station = .unjoined ∨ (s.take cmd).settings = s.settings := by
  rw [take_eq]
  have taken : (s.takenState cmd).settings = s.settings :=
    (takenState_calm (s₀ := s) cmd).settings fun k hk => by rw [hk]; simp
  rw [← taken]
  by_cases hw : ∃ i hi lo, cmd = .writeSetting i hi lo
  · obtain ⟨i, hi, lo, rfl⟩ := hw
    exact (carryOut_write_moves (s₀ := s) i hi lo _).settled fun k hk => by rcases hk with rfl | rfl <;> simp
  · refine .inr ((carryOut_moves (s₀ := s) ⟨cmd, _⟩ fun i hi lo he => hw ⟨i, hi, lo, he⟩).settings fun k hk => ?_)
    rcases hk with rfl | rfl <;> simp

/-- A row other than the end of a flag byte and a reset makes no move that clears, and none that writes. -/
theorem RowKind.standing {i : Instr} (h : RowKind s i P) (hi : ¬ Clearing i) {k : MoveKind} (hk : P k) :
    k ≠ .write ∧ k ≠ .clears := by
  cases h with
  | calm => rw [hk]; simp
  | clears h => exact absurd h hi
  | evaluated => rcases hk with rfl | rfl | rfl <;> simp
  | swept => rcases hk with rfl | rfl | rfl <;> simp
  | slice => rcases hk with rfl | rfl <;> simp
  | hold => rcases hk with rfl | rfl <;> simp
  | frame => rcases hk with rfl | ⟨f, rfl, -⟩ <;> simp
  | realigned => rcases hk with rfl | ⟨f, rfl, -⟩ <;> simp
  | leftHold => rcases hk with rfl | ⟨f, rfl, -⟩ <;> simp
  | conflict => rcases hk with rfl | rfl <;> simp
  | lineFault => rcases hk with rfl | rfl <;> simp

/-- Only the row of a report makes the move that halts the station. -/
theorem RowKind.halts {i : Instr} (h : RowKind s i P) (hk : P (.halt cause)) :
    (cause = .lineFault ∧ ∃ held, i = .lineFault held) ∨
      (cause = .stationConflict ∧ ((∃ n, i = .stationConflict n) ∨ ∃ heard, i = .heardNoticeJudged heard)) := by
  cases h with
  | calm => cases hk
  | clears => rcases hk with hk | hk <;> cases hk
  | evaluated => rcases hk with hk | hk | hk <;> cases hk
  | swept => rcases hk with hk | hk | hk <;> cases hk
  | slice => rcases hk with hk | hk <;> cases hk
  | hold => rcases hk with hk | hk <;> cases hk
  | frame => rcases hk with hk | ⟨f, hk, -⟩ <;> cases hk
  | realigned => rcases hk with hk | ⟨f, hk, -⟩ <;> cases hk
  | leftHold => rcases hk with hk | ⟨f, hk, -⟩ <;> cases hk
  | conflict h =>
    rcases hk with hk | hk <;> cases hk
    exact .inr ⟨rfl, h⟩
  | lineFault held =>
    rcases hk with hk | hk <;> cases hk
    exact .inl ⟨rfl, held, rfl⟩

theorem StepShape.pending (h : StepShape s₀ P s t) : t.pending = s.pending :=
  h.keeps (inv := fun x => x.pending = s.pending) (fun _ _ _ m hx => m.pending.trans hx) rfl

/-- The settings change in a step that ends UNJOINED alone (R136). -/
theorem exec_settled {i : Instr} (h : exec i s = .next t) : t.station = .unjoined ∨ t.settings = s.settings := by
  by_cases hi : Clearing i
  · exact (exec_clearing (s₀ := s) hi h).settled fun k hk => by rcases hk with rfl | rfl <;> simp
  · obtain ⟨P, hrow, x, hx, ht⟩ := exec_shape h
    have kept : x.settings = s.settings := hx.settings fun _ hk => hrow.standing hi hk
    rcases ht with rfl | ⟨cmd, rfl⟩
    · exact .inr kept
    · exact (take_settled cmd).imp_right fun ht => ht.trans kept

/-- A flag set stands through every row that does not clear it (R178). -/
theorem exec_flags {i : Instr} (hi : ¬ Clearing i) (h : exec i s = .next t) (e : Event)
    (hs : s.events.isSet e = true) : t.events.isSet e = true := by
  obtain ⟨P, hrow, x, hx, ht⟩ := exec_shape h
  have kept : x.events.isSet e = true :=
    hx.keeps (inv := fun x => x.events.isSet e = true) (fun _ _ _ hk m => m.flags (hrow.standing hi hk).2 _) hs
  rcases ht with rfl | ⟨cmd, rfl⟩
  · exact kept
  · exact (take_moves (s₀ := s) cmd).keeps (inv := fun x => x.events.isSet e = true)
      (fun _ _ _ hk m => m.flags (by rcases hk with rfl | rfl | rfl <;> simp) _) kept

/-- HALTED is entered by a report, whose cause it has (R145). -/
theorem exec_halted {i : Instr} (h : exec i s = .next t) (hs : s.station ≠ .halted) (ht : t.station = .halted) :
    (∃ P, RowKind s i P ∧ P (.halt t.haltCause)) ∧ t.events.isSet .halted = true := by
  have before : ∀ {C cleared}, HaltedBy C cleared s := fun hh => absurd hh hs
  by_cases hi : Clearing i
  · have never : HaltedBy (fun _ => False) True t := (exec_clearing (s₀ := s) hi h).keeps
      (fun _ _ _ hk m => m.haltedBy (fun _ => trivial) fun c hc => by subst hc; rcases hk with hk | hk <;> cases hk) before
    exact (never ht).1.elim
  · obtain ⟨P, hrow, x, hx, hend⟩ := exec_shape h
    have reported : HaltedBy (fun c => P (.halt c)) False x := hx.keeps
      (fun _ _ _ hk m => m.haltedBy (fun hc => absurd hc (hrow.standing hi hk).2) fun c hc => hc ▸ hk) before
    have after : HaltedBy (fun c => P (.halt c)) False t := by
      rcases hend with rfl | ⟨cmd, rfl⟩
      · exact reported
      · refine (take_moves (s₀ := s) cmd).keeps (fun _ _ _ hk m => m.haltedBy (fun hc => ?_) fun c hc => ?_) reported
        all_goals subst hc; rcases hk with hk | hk | hk <;> cases hk
    exact ⟨⟨P, hrow, (after ht).1⟩, (after ht).2.resolve_right id⟩

/-! ### O2, O3 -/

/-- Settles O2: each part is a rule over the moves of a row. -/
theorem queueSettingsAndFlagsStandAndOnlyLineReportsHalt :
    Obligations.QueueSettingsAndFlagsStandAndOnlyLineReportsHalt := by
  intro i s t h
  refine ⟨?_, fun hn => (exec_settled h).resolve_left hn, fun e h1 h2 h3 h4 hs => exec_flags ?_ h e hs, fun hs ht => ?_⟩
  · obtain ⟨P, -, hshape⟩ := exec_shape h
    exact hshape.pending
  · rintro (hi | hi | hi | hi)
    exacts [h1 hi, h2 hi, h3 hi, h4 hi]
  · obtain ⟨⟨P, hrow, hk⟩, hset⟩ := exec_halted h hs ht
    exact ⟨hset, hrow.halts hk⟩

/-- A step that takes a command asserts no output by it. -/
theorem StepShape.driven_le (hP : ∀ k, P k → k ≠ .slice ∧ ∀ f, k ≠ .frame f) (h : StepShape s₀ P s t)
    (ht : t.driven.get c = true) : s.driven.get c = true := by
  obtain ⟨x, hx, hend⟩ := h
  refine hx.driven_le hP ?_
  rcases hend with rfl | ⟨cmd, rfl⟩
  · exact ht
  · exact (take_moves (s₀ := s₀) cmd).driven_le (fun k hk => by rcases hk with rfl | rfl | rfl <;> simp) ht

/-- Settles O3: only slice boundaries and frame starts assert outputs, and each row makes its own frame start. -/
theorem outputsComeOnOnlyAtBoundaries : Obligations.OutputsComeOnOnlyAtBoundaries := by
  intro i s t c h hs ht
  obtain ⟨P, hrow, hshape⟩ := exec_shape h
  have never : ∀ {p : Prop}, (∀ k, P k → k ≠ .slice ∧ ∀ f, k ≠ .frame f) → p := fun hP =>
    absurd (hshape.driven_le hP ht) (by simp [hs])
  cases hrow with
  | calm => exact never fun k hk => by rw [hk]; simp
  | clears => exact never fun k hk => by rcases hk with rfl | rfl <;> simp
  | evaluated => exact never fun k hk => by rcases hk with rfl | rfl | rfl <;> simp
  | swept => exact never fun k hk => by rcases hk with rfl | rfl | rfl <;> simp
  | slice sns => exact .inl ⟨sns, rfl⟩
  | hold => exact never fun k hk => by rcases hk with rfl | rfl <;> simp
  | frame sns =>
    cases h
    rcases expireFrame_moves (s₀ := s) (s := s) sns with hm | hm
    · exact absurd (hm.driven_le (fun k hk => by rcases hk with rfl | rfl <;> simp) ht) (by simp [hs])
    · obtain ⟨hslice, hhold, -⟩ := hm.asserted hs ht
      exact .inr ⟨hslice, hhold, .inl ⟨sns, rfl⟩⟩
  | realigned dominant first =>
    cases h
    obtain ⟨hslice, hhold, hsync⟩ := (complete_moves dominant first).asserted hs ht
    exact .inr ⟨hslice, hhold, .inr (.inl ⟨dominant, first, rfl, hsync⟩)⟩
  | leftHold hi =>
    have hm : Moves s (FrameKind fun _ => s.station = .leaving ∧ s.timer.hold = true) s t := by
      rcases hi with ⟨k, rfl⟩ | ⟨found, rfl⟩ <;> cases h
      · exact breakNotice_moves k
      · exact driverFails_moves found
    obtain ⟨hslice, hhold, hleft⟩ := hm.asserted hs ht
    exact .inr ⟨hslice, hhold, .inr (.inr ⟨hleft.1, hleft.2, hi⟩)⟩
  | conflict => exact never fun k hk => by rcases hk with rfl | rfl <;> simp
  | lineFault => exact never fun k hk => by rcases hk with rfl | rfl <;> simp

end Sys2Proof.Machine
end

section
/-! PROOFS. The queue of commands, the reset state, the encodings of host commands, and the commands answered at the port
at once (R163, R166). -/

namespace Sys2Proof.Machine

open Sys2Proof.Safety

variable {s t : State}

/-! ### Commands of a port that is ready -/

/-- A command at a port that is ready is taken (R163). -/
theorem exec_of_ready (cmd : HostCmd) (h : Ready s) : exec (commandStep cmd) s = .next (s.take cmd) := by
  have received := State.receive_ready s cmd h.1 h.2
  cases cmd <;> exact congrArg Host.Outcome.next received

/-- A command other than a RELEASE is carried out on the state in which it waits (R166). -/
theorem exec_carryOut (cmd : HostCmd) (h : Ready s) (hc : ∀ c, cmd ≠ .release c) :
    exec (commandStep cmd) s = .next (State.carryOut ⟨cmd, false⟩ (waiting cmd s)) := by
  rw [exec_of_ready cmd h, State.take_unmarked s cmd hc]
  rfl

/-! ### What a command does as it is carried out -/

variable {b : Bool}

theorem carryOut_readSetting (i : Byte) : State.carryOut ⟨.readSetting i, b⟩ s =
    match settingId i with
    | none => s.answer (.readSetting i) .badParameter
    | some id => s.answerWith ((HostCmd.readSetting i).respond .plain (twoBytes (s.settings.value id)) .ok) := rfl

theorem carryOut_readChannel (c : Byte) : State.carryOut ⟨.readChannel c, b⟩ s =
    if 7 < c.toNat then s.answer (.readChannel c) .badParameter else s.answerWith Response.toForm := rfl

theorem carryOut_writeSetting (i hi lo : Byte) : State.carryOut ⟨.writeSetting i hi lo, b⟩ s =
    State.answer (.writeSetting i hi lo) (s.writeCheck i hi lo)
      (match s.writeCheck i hi lo, settingId i with
        | .ok, some id => s.writeSetting id (pairNat hi lo)
        | _, _ => s) := rfl

theorem carryOut_join : State.carryOut ⟨.join, b⟩ s =
    State.answer .join s.joinCheck (if s.joinCheck = .ok then s.startListening else s) := rfl

theorem carryOut_leave : State.carryOut ⟨.leave, b⟩ s = State.answer .leave s.leaveCheck s.leaveCommand := rfl

theorem carryOut_request (c m st l : Byte) : State.carryOut ⟨.request c m st l, b⟩ s =
    if s.station.running then s else s.answer (.request c m st l) (s.requestCheck c m st l) := rfl

theorem carryOut_release (c : Byte) : State.carryOut ⟨.release c, b⟩ s =
    if s.station.running then s else s.answer (.release c) (s.releaseCheck c b) := rfl

theorem carryOut_readEntry (i : Byte) : State.carryOut ⟨.readEntry i, b⟩ s =
    if 95 < i.toNat then s.answer (.readEntry i) .badParameter else s := rfl

theorem carryOut_readPeer (i : Byte) : State.carryOut ⟨.readPeer i, b⟩ s =
    if 30 < i.toNat then s.answer (.readPeer i) .badParameter else s := rfl

theorem carryOut_readMap (f c : Byte) : State.carryOut ⟨.readMap f c, b⟩ s =
    if mapParamsOk f c then s else s.answer (.readMap f c) .badParameter := rfl

theorem carryOut_shedNow : State.carryOut ⟨.shedNow, b⟩ s =
    if s.station.online then (s.shedCause false true).answer .shedNow .ok else s.answer .shedNow .wrongState := rfl

/-! ### O1 -/

/-- Settles O1: the two arms of `step`. -/
theorem stepTakesTheFrontCommand : Obligations.StepTakesTheFrontCommand :=
  ⟨fun _ _ _ => rfl, fun s hp hd => by rw [step, hp]; exact State.clock_off s hd⟩

/-! ### O12 -/

theorem reset_entriesLegal : EntriesLegal State.reset := by
  have none : ∀ (p : Fin 96) (e : Entry), State.reset.book.entry p ≠ some e := fun p e h => by
    rw [show State.reset.book.entry p = none from get_replicate none p] at h
    cases h
  refine ⟨fun p q e he => absurd he (none p e), fun p e he => absurd he (none p e), ?_, ?_, ?_, ?_, ?_⟩
  · decide +kernel
  · unfold PlacementServes; decide +kernel
  all_goals decide +kernel

/-- Settles O12: every block is empty, idle and off after a reset. -/
theorem resetStateIsSound : Obligations.ResetStateIsSound := by
  refine ⟨?_, reset_entriesLegal, ?_, ?_, ?_, ?_, ?_, ?_, ?_, ?_, ?_, ?_, ?_, ?_, ?_⟩
  · unfold MapMatches; decide +kernel
  · unfold PeersLegal; decide +kernel
  · unfold ResyncLegal; decide +kernel
  · unfold OutputsSafe MayDrive PlacementServes; decide +kernel
  · unfold ChannelsLegal RecordLegal PlacementServes; decide +kernel
  · unfold GrantsLegal PlacementServes; decide +kernel
  · unfold TransmitLegal; decide +kernel
  · unfold ChannelNoticesLegal PlacementServes; decide +kernel
  · unfold ReceiveLegal; decide +kernel
  · refine ⟨by decide, by decide, by decide, by decide, by decide, by decide, ?_, trivial⟩
    intro i hi
    cases hi
  · exact ⟨⟨rfl, rfl⟩, by decide +kernel⟩
  · unfold SettingsLegal; decide +kernel
  · unfold StationLegal; decide +kernel
  · exact fun _ => ⟨rfl, rfl, rfl, rfl, rfl, rfl, rfl, rfl, rfl, rfl, rfl, rfl, rfl, rfl, rfl⟩

/-! ### O16 -/

/-- Settles O16: each of these commands puts its response in as it is taken. -/
theorem portAnswersReadsAtOnce : Obligations.PortAnswersReadsAtOnce := by
  intro s h
  have carried : ∀ cmd, (∀ c, cmd ≠ .release c) →
      exec (commandStep cmd) s = .next (State.carryOut ⟨cmd, false⟩ (waiting cmd s)) := fun cmd => exec_carryOut cmd h
  refine ⟨carried .nop (by simp), carried .readStatus (by simp), carried .readEvents (by simp), fun ident id hid => ?_,
    fun ident hid => ?_, fun b hb => ?_, fun b hb => ?_⟩
  · refine (carried (.readSetting ident) (by simp)).trans ?_
    rw [carryOut_readSetting, hid]
    rfl
  · refine (carried (.readSetting ident) (by simp)).trans ?_
    rw [carryOut_readSetting, hid]
    rfl
  · refine (carried (.readChannel b) (by simp)).trans ?_
    rw [carryOut_readChannel, if_neg (by simpa using hb)]
    rfl
  · refine (carried (.readChannel b) (by simp)).trans ?_
    rw [carryOut_readChannel, if_pos hb]
    rfl

end Sys2Proof.Machine
end

section
/-! PROOFS. The bytes of host commands (R163), the settings (R136), the pins (R68, R180, R181). -/

namespace Sys2Proof.Machine

open Sys2Proof.Safety

variable {s t : State}

/-! ### O13 -/

/-- Each step's bytes spell it, and no shorter run of them does (R163, R164). -/
theorem bytes_spell_step (i : Instr) : Laws.F.Statement i := by
  cases i with
  | nop => exact Laws.F.nop
  | readStatus => exact Laws.F.readStatus
  | readEvents => exact Laws.F.readEvents
  | writeEventMask a b => exact Laws.F.writeEventMask a b
  | readSetting a => exact Laws.F.readSetting a
  | writeSetting a b c => exact Laws.F.writeSetting a b c
  | join => exact Laws.F.join
  | leave => exact Laws.F.leave
  | softReset => exact Laws.F.softReset
  | request a b c d => exact Laws.F.request a b c d
  | release a => exact Laws.F.release a
  | readChannel a => exact Laws.F.readChannel a
  | readEntry a => exact Laws.F.readEntry a
  | readPeer a => exact Laws.F.readPeer a
  | readMap a b => exact Laws.F.readMap a b
  | shedNow => exact Laws.F.shedNow
  | unknownCommand code => exact Laws.F.unknownCommand code
  | _ => exact Laws.F.of_none _ rfl

/-- Bytes after those that spell a command are ignored (R167). -/
theorem decodeTransaction_append {bytes : List Byte} {i : Instr} (h : decodeTransaction bytes = some i)
    (rest : List Byte) : decodeTransaction (bytes ++ rest) = some i := by
  cases bytes with
  | nil => cases h
  | cons code params =>
    simp only [decodeTransaction] at h
    split at h
    · cases h
    · next hlen =>
      simp only [decodeTransaction, List.cons_append, List.length_append]
      rw [if_neg (by omega), List.take_append_of_le_length (by omega)]
      exact h

/-- Settles O13: the lemma of each step, and the bytes behind the last one are ignored. -/
theorem hostCommandBytesRoundTrip : Obligations.HostCommandBytesRoundTrip := fun i bytes rest hw hb =>
  have spelled := bytes_spell_step i hw bytes hb
  ⟨decodeTransaction_append spelled.1 rest, spelled.2⟩

/-! ### Settings -/

/-- A value within its range is read back after its write (R136). -/
theorem Settings.value_write_same {set : Settings} {id : SettingId} {v : Nat} (h : id.inRange v = true) :
    (set.write v id).value id = v := by
  have bit : v ≤ 1 → (v == 1).toNat = v := fun h => by
    rcases Nat.le_one_iff_eq_zero_or_eq_one.1 h with rfl | rfl <;> rfl
  cases id with
  | weight c => simp [Settings.write, Settings.value, get_set]
  | sheddable c =>
    simp only [Settings.write, Settings.value, get_set, if_true]
    exact bit (by simpa [SettingId.inRange] using h)
  | invert c =>
    simp only [Settings.write, Settings.value, get_set, if_true]
    exact bit (by simpa [SettingId.inRange] using h)
  | _ => rfl

/-- A write of a setting leaves every other (R136). -/
theorem Settings.value_write_other {set : Settings} {id j : SettingId} {v : Nat} (h : j ≠ id) :
    (set.write v id).value j = set.value j := by
  cases id <;> cases j <;>
    simp only [Settings.write, Settings.value, get_set, ne_eq, not_true_eq_false, SettingId.weight.injEq,
      SettingId.sheddable.injEq, SettingId.invert.injEq] at h ⊢ <;> simp_all

/-- What WRITE_SETTING answers (R136). -/
theorem writeCheck_eq {ident hi lo : Byte} {id : SettingId} (h : settingId ident = some id) :
    s.writeCheck ident hi lo = if s.station ≠ .unjoined then .wrongState
      else if id.inRange (pairNat hi lo) = false then .badParameter else .ok := by
  rw [State.writeCheck, h]
  simp

/-- An accepted write is the setting at its value, and what it restarts (R136, R151). -/
theorem writeSetting_eq (id : SettingId) (v : Nat) (h : id.inRange v = true) :
    ∃ set : Settings, (set.value id = v ∧ ∀ j, j ≠ id → set.value j = s.settings.value j) ∧
      s.writeSetting id v = { s with
        settings := set
        supply := if s.settings.value id = set.value id then s.supply
          else if id = .sliceLength then { s.supply with samplerInterval := 25 * 2 ^ set.sliceLength }
          else if id = .supplyThreshold then { s.supply with history := 0 }
          else s.supply } := by
  by_cases hv : s.settings.value id = v
  · exact ⟨s.settings, ⟨hv, fun _ _ => rfl⟩, by rw [State.writeSetting, if_pos hv]; simp⟩
  · refine ⟨s.settings.write v id, ⟨Settings.value_write_same h, fun j => Settings.value_write_other⟩, ?_⟩
    rw [State.writeSetting, if_neg hv, Settings.value_write_same h, if_neg hv]
    cases id <;> rfl

/-! ### O18 -/

/-- Settles O18: the checks in their order, then the write. -/
theorem writeSettingByItsChecks : Obligations.WriteSettingByItsChecks := by
  intro s ident hi lo h
  have carried := (exec_carryOut (.writeSetting ident hi lo) h (by simp)).trans
    (congrArg Host.Outcome.next (carryOut_writeSetting ident hi lo))
  have refused : ∀ r, r ≠ .ok → s.writeCheck ident hi lo = r → exec (.writeSetting ident hi lo) s =
      .next (answered (.writeSetting ident hi lo) ⟨.plain, [], r⟩ s) := fun r hr hc => by
    refine carried.trans ?_
    rw [show (waiting (.writeSetting ident hi lo) s).writeCheck ident hi lo = r from hc]
    cases r <;> first | rfl | exact absurd rfl hr
  refine ⟨fun hid => refused _ (by simp) (by rw [State.writeCheck, hid]), fun id hid => ⟨fun hs => ?_, fun hs hv => ?_,
    fun hs hv => ?_⟩⟩
  · exact refused _ (by simp) (by rw [writeCheck_eq hid, if_pos hs])
  · exact refused _ (by simp) (by rw [writeCheck_eq hid, if_neg (not_not.2 hs), if_pos (by exact hv)])
  · have ok : (waiting (.writeSetting ident hi lo) s).writeCheck ident hi lo = .ok := by
      rw [writeCheck_eq hid, if_neg (by exact not_not.2 hs), if_neg (by rw [show pairNat hi lo = 256 * hi.toNat + lo.toNat from rfl, hv]; simp)]
    obtain ⟨set, ⟨hval, hother⟩, hwrite⟩ := writeSetting_eq (s := waiting (.writeSetting ident hi lo) s) id
      (pairNat hi lo) hv
    refine ⟨set, _, carried.trans ?_, hval, hother, rfl⟩
    rw [ok, hid]
    dsimp only
    rw [hwrite]
    rfl

end Sys2Proof.Machine
end

section
/-! PROOFS. The pins (R68, R180, R181), the resets (R148, R149) and the framing of transactions (R163, R167). -/

namespace Sys2Proof.Machine

open Sys2Proof.Safety

variable {s t : State}

/-! ### ATTN# and LDn -/

/-- Each of the sixteen bits of a flag word is an event's. -/
theorem exists_eventNumber : ∀ n : Fin 16, ∃ e : Event, eventNumber e = n.val := by
  intro n
  match n with
  | 0 => exact ⟨.joinDone, rfl⟩
  | 1 => exact ⟨.leaveDone, rfl⟩
  | 2 => exact ⟨.channelOutcome, rfl⟩
  | 3 => exact ⟨.peerNew, rfl⟩
  | 4 => exact ⟨.peerGone, rfl⟩
  | 5 => exact ⟨.desync, rfl⟩
  | 6 => exact ⟨.resyncDone, rfl⟩
  | 7 => exact ⟨.overcommit, rfl⟩
  | 8 => exact ⟨.tableFull, rfl⟩
  | 9 => exact ⟨.shedStart, rfl⟩
  | 10 => exact ⟨.shedEnd, rfl⟩
  | 11 => exact ⟨.syncSlip, rfl⟩
  | 12 => exact ⟨.witnessFail, rfl⟩
  | 13 => exact ⟨.budgetMismatch, rfl⟩
  | 14 => exact ⟨.rxOverrun, rfl⟩
  | 15 => exact ⟨.halted, rfl⟩
  | ⟨n + 16, h⟩ => exact absurd h (by omega)

/-- ATTN# is low exactly while a flag and its mask bit are set (R181). -/
theorem attnLow_iff : s.attnLow = true ↔
    ∃ e : Event, s.events.isSet e = true ∧ s.events.mask.getLsbD (eventNumber e) = true := by
  rw [State.attnLow, bne_iff_ne]
  constructor
  · intro h
    by_contra hno
    refine h (BitVec.eq_of_getLsbD_eq fun n hn => ?_)
    obtain ⟨e, he⟩ := exists_eventNumber ⟨n, hn⟩
    rw [BitVec.getLsbD_and, BitVec.getLsbD_zero, Bool.eq_false_iff]
    intro hset
    rw [Bool.and_eq_true] at hset
    exact hno ⟨e, by rw [EventBlock.isSet, he]; exact hset.1, by rw [he]; exact hset.2⟩
  · rintro ⟨e, hset, hmask⟩ hz
    have both := BitVec.getLsbD_and (x := s.events.flags) (y := s.events.mask) (i := eventNumber e)
    rw [hz, hmask, show s.events.flags.getLsbD (eventNumber e) = true from hset] at both
    simp at both

theorem ldHigh_iff (c : Chan) : s.ldHigh c = true ↔ (s.driven.get c = true ∧ s.settings.invert.get c = false) ∨
    (s.driven.get c = false ∧ s.settings.invert.get c = true) := by
  rw [State.ldHigh]
  cases s.driven.get c <;> cases s.settings.invert.get c <;> simp

theorem toNat_bool_inj {a b : Bool} (h : a.toNat = b.toNat) : a = b := by
  cases a <;> cases b <;> first | rfl | cases h

theorem settingId_invert {ident : Byte} {c : Chan} (h : ident.toNat = 0x20 + c.val) :
    settingId ident = some (.invert c) := by
  have hc := c.isLt
  have hchan : chanOf (0x20 + c.val - 0x20) = c := by
    rw [Nat.add_sub_cancel_left]
    exact Fin.ext (Nat.mod_eq_of_lt hc)
  simp only [settingId, h, hchan]
  repeat rw [if_neg (by omega)]
  rw [if_pos (by omega)]

/-- A write of CH_INVERT in UNJOINED moves the level of its deasserted output alone (R68). -/
theorem ldHigh_of_writeInvert {c : Chan} {ident lo : Byte} (h : Ready s) (hs : s.station = .unjoined)
    (hd : s.driven.get c = false) (hlo : lo.toNat ≤ 1) (hid : ident.toNat = 0x20 + c.val)
    (ht : exec (.writeSetting ident 0 lo) s = .next t) :
    t.ldHigh c = decide (lo.toNat = 1) ∧ ∀ d, d ≠ c → t.ldHigh d = s.ldHigh d := by
  obtain ⟨set, supply, hexec, hval, hother, -⟩ :=
    ((writeSettingByItsChecks s ident 0 lo h).2 (.invert c) (settingId_invert hid)).2.2 hs (by
      simpa [SettingId.inRange] using hlo)
  rw [ht] at hexec
  cases hexec
  have own : (set.invert.get c).toNat = lo.toNat := by simpa [Settings.value] using hval
  refine ⟨?_, fun d hdc => ?_⟩
  · show xor (s.driven.get c) (set.invert.get c) = decide (lo.toNat = 1)
    rw [hd, ← own]
    cases set.invert.get c <;> rfl
  · have same : (set.invert.get d).toNat = (s.settings.invert.get d).toNat :=
      hother (.invert d) (by simpa using hdc)
    show xor (s.driven.get d) (set.invert.get d) = xor (s.driven.get d) (s.settings.invert.get d)
    rw [toNat_bool_inj same]

/-! ### O17 -/

/-- Settles O17: the mask as a word of two bytes, and the levels of the pins from the model's two definitions. -/
theorem maskFlagsAndInvertDecideThePins : Obligations.MaskFlagsAndInvertDecideThePins := by
  refine ⟨fun s m1 m2 h => ⟨m2 ++ m1, fun n hn => ⟨?_, ?_⟩, exec_carryOut (.writeEventMask m1 m2) h (by simp)⟩,
    fun s => attnLow_iff, fun s c => ⟨ldHigh_iff c, fun t ident lo h hs hd hlo hid ht =>
      ldHigh_of_writeInvert h hs hd hlo hid ht, fun t hp ht => ?_, fun t ht => ?_⟩⟩
  · exact (BitVec.getLsbD_append (x := m2) (y := m1)).trans (if_pos hn)
  · exact (BitVec.getLsbD_append (x := m2) (y := m1)).trans
      ((if_neg (by omega)).trans (by rw [Nat.add_sub_cancel]))
  · have hsoft : exec .softReset s = .next s.softReset := congrArg Host.Outcome.next (if_pos hp)
    rw [hsoft] at ht
    cases ht
    show xor ((Vector.replicate 8 false).get c) (s.settings.invert.get c) = s.settings.invert.get c
    rw [get_replicate, Bool.false_xor]
  · have low : xor ((Vector.replicate 8 false).get c) ((Vector.replicate 8 false).get c) = false := Bool.xor_self _
    rcases ht with ht | ht <;> cases ht <;> exact low

/-! ### O21 -/

/-- Settles O21: each reset is the model's own, and its end starts the sampler once no reset is taken any more. -/
theorem resetsTakeTheirResetValues : Obligations.ResetsTakeTheirResetValues := by
  refine ⟨fun s hp => ?_, fun s => ⟨rfl, rfl⟩, fun s hp => ?_, fun s hp => ?_, fun s t hp hc hq ht => ?_⟩
  · exact congrArg Host.Outcome.next (if_pos hp)
  · refine congrArg Host.Outcome.next ((if_pos hp).trans ?_)
    rw [State.leaveReset]
    cases hpower : s.resets.power <;> simp [State.inReset, hpower, State.startSampler, sliceMicros]
  · refine congrArg Host.Outcome.next ((if_pos hp).trans ?_)
    rw [State.leaveReset]
    cases hpin : s.resets.pin <;> simp [State.inReset, hpin, State.startSampler, sliceMicros]
  · cases ht
    refine congrArg Host.Outcome.next ?_
    simp only [State.holdReset, State.resetBlocks, State.leaveReset, State.inReset, State.startSampler, hp, hc, hq]
    rfl

end Sys2Proof.Machine
end

section
/-! PROOFS. The framing of transactions (R163, R167, R168) and the bytes that clear what they report (R71, R72, R178,
R179). -/

namespace Sys2Proof.Machine

open Sys2Proof.Safety

variable {s t : State}

/-! ### Channel records put in -/

/-- Two states alike but for their channels are the same where their records are. -/
theorem State.setChan_self (c : Chan) : s.setChan c (s.chan c) = s := by
  have : s.channels.set c (s.chan c) = s.channels := vector_ext_get fun i => by
    rw [get_set]
    split
    · next h => rw [h]; rfl
    · rfl
  rw [State.setChan, this]

theorem modChan_eq (c : Chan) (f : Channel → Channel) : s.modChan c f = s.setChan c (f (s.chan c)) := rfl

/-! ### Flag bytes -/

theorem getLsbD_flagByteMask {k n : Nat} (hk : k < 2) (hn : n < 16) :
    (flagByteMask k).getLsbD n = decide (n / 8 = k) := by
  have all : ∀ k : Fin 2, ∀ n : Fin 16, (flagByteMask k.val).getLsbD n.val = decide (n.val / 8 = k.val) := by decide
  exact all ⟨k, hk⟩ ⟨n, hn⟩

/-- The flags of a report of which `k` bytes are out: those of the bytes from the `k`-th on (R179). -/
theorem getLsbD_unshiftedFlags {rep : BitVec 16} {k n : Nat} {fields : List Byte} {r : ResultCode} (hn : n < 16) :
    (unshiftedFlags (some ⟨.events rep k, fields, r⟩)).getLsbD n = decide (8 * k ≤ n) := by
  match k with
  | 0 => simp [unshiftedFlags]; exact (by decide : ∀ n : Fin 16, (0xFFFF#16).getLsbD n.val = true) ⟨n, hn⟩
  | 1 => exact (by decide : ∀ n : Fin 16, (0xFF00#16).getLsbD n.val = decide (8 * 1 ≤ n.val)) ⟨n, hn⟩
  | k + 2 =>
    rw [decide_eq_false (by omega)]
    exact BitVec.getLsbD_zero

/-- Only a READ_EVENTS under way has flags not shifted out (R179). -/
theorem unshiftedFlags_eq_zero {p : Option Response}
    (h : ∀ rep k fields r, p ≠ some ⟨.events rep k, fields, r⟩) : unshiftedFlags p = 0#16 := by
  unfold unshiftedFlags
  split
  · exact absurd rfl (h _ _ _ _)
  · exact absurd rfl (h _ _ _ _)
  · rfl

/-! ### O22 -/

/-- A close, with what it does to the marks of the response it discards (R167, R168). -/
theorem exec_close (h : s.host.csLow = true) {u : State} (hu : s.closeReads = u) (hh : u.host = s.host) :
    exec .transactionClose s = .next { u with
      host := ⟨false, false, .closed, none,
        if s.host.held = none ∧ s.host.response = none then s.host.current else s.host.held, none⟩
      serial := ⟨[], none, 0⟩ } := by
  refine congrArg Host.Outcome.next ?_
  unfold State.closeTransaction
  rw [if_neg (by simp [h]), hu]
  dsimp only
  rw [hh]
  cases s.host.held <;> cases s.host.response <;> rfl

/-- Settles O22: the edges of CS#, and the close by what it discards. -/
theorem transactionsAreFramedByChipSelect : Obligations.TransactionsAreFramedByChipSelect := by
  refine ⟨fun s hc => ⟨fun hr => ?_, fun hr => ?_⟩, fun s code hp hcode => congrArg Host.Outcome.next (if_pos ⟨hp, hcode⟩),
    fun s hc => ⟨fun hnone => ?_, fun kind fields r hresp hk => ?_, fun rep k fields r hresp => ?_,
      fun c shifted fields r hresp => ?_⟩⟩
  · exact congrArg Host.Outcome.next ((if_neg (by simp [hc])).trans (if_neg (by simp [hr])))
  · exact congrArg Host.Outcome.next ((if_neg (by simp [hc])).trans (if_pos hr))
  · rw [exec_close hc (u := s) (by rw [State.closeReads, hnone]) rfl]
    simp [hnone]
  · rw [exec_close hc (u := s) (by rcases hk with rfl | rfl <;> rw [State.closeReads, hresp]) rfl]
    simp [hresp]
  · refine ⟨s.events.seconds &&& ~~~unshiftedFlags s.host.response, ?_, fun n hn => ?_⟩
    · have reads : s.closeReads = { s with events := { s.events with
          seconds := s.events.seconds &&& ~~~unshiftedFlags s.host.response } } := by
        rw [State.closeReads, hresp]
      rw [exec_close hc reads rfl]
      simp [hresp]
    · rw [BitVec.getLsbD_and, BitVec.getLsbD_not, hresp, getLsbD_unshiftedFlags hn]
      rcases Nat.lt_or_ge n (8 * k) with h | h
      · simp [hn, h]
      · simp [hn, h]
  · have reads : s.closeReads = s.setChan c { s.chan c with rewrite := (s.chan c).rewrite && shifted } := by
      rw [State.closeReads, hresp]
      cases shifted
      · simp [modChan_eq]
      · simp only [Bool.and_true]
        exact (State.setChan_self c).symm
    rw [exec_close hc reads rfl]
    simp [hresp]

/-! ### O27 -/

theorem raise_isSet (e f : Event) : (s.raise e).events.isSet f = true ↔ s.events.isSet f = true ∨ f = e := by
  simp [EventBlock.isSet, State.raise_flags, eventBit_getLsbD]

theorem eventNumber_lt (e : Event) : eventNumber e < 16 := by cases e <;> decide

/-- The second-occurrence mark of an event is set where its byte of a report is still to be shifted out (R178, R179). -/
theorem raise_seconds_iff (e f : Event) : (s.raise e).events.seconds.getLsbD (eventNumber f) = true ↔
    s.events.seconds.getLsbD (eventNumber f) = true ∨ (f = e ∧ ∃ rep k fields r,
      s.host.response = some ⟨.events rep k, fields, r⟩ ∧ (k = 0 ∨ (k = 1 ∧ 8 ≤ eventNumber f))) := by
  have raised : (s.raise e).events.seconds = s.events.seconds ||| (eventBit e &&& unshiftedFlags s.host.response) := rfl
  have hf := eventNumber_lt f
  rw [raised, BitVec.getLsbD_or, BitVec.getLsbD_and, eventBit_getLsbD, Bool.or_eq_true, Bool.and_eq_true,
    decide_eq_true_iff]
  refine or_congr Iff.rfl (and_congr Iff.rfl ⟨fun h => ?_, ?_⟩)
  · by_cases hno : ∀ rep k fields r, s.host.response ≠ some ⟨.events rep k, fields, r⟩
    · rw [unshiftedFlags_eq_zero hno] at h
      simp at h
    · simp only [not_forall, not_not] at hno
      obtain ⟨rep, k, fields, r, hresp⟩ := hno
      rw [hresp, getLsbD_unshiftedFlags hf, decide_eq_true_iff] at h
      exact ⟨rep, k, fields, r, hresp, by omega⟩
  · rintro ⟨rep, k, fields, r, hresp, hk⟩
    rw [hresp, getLsbD_unshiftedFlags hf, decide_eq_true_iff]
    omega

theorem showMarker_of_response (h : s.host.phase = .response) : s.showMarker = s := by
  rw [State.showMarker, h]

theorem readingOutcome_iff {p : Option Response} {c : Chan} :
    readingOutcome p c = true ↔ ∃ fields r, p = some ⟨.channel c false, fields, r⟩ := by
  unfold readingOutcome
  split
  · next d fields r => simp
  · next h => simpa using fun fields r hp => h c fields r hp

/-- An outcome written, with its fresh mark, and its rewrite mark where the old one is being read (R71, R72). -/
theorem writeOutcome_eq (c : Chan) (k : OutcomeKind) (w : Option Window) :
    s.writeOutcome c k w = (s.setChan c { s.chan c with
      outcome := k, outcomeWindow := w, fresh := true
      rewrite := (s.chan c).rewrite || readingOutcome s.host.response c }).raise .channelOutcome := rfl

/-- The bits of the flags and marks after the end of a flag byte (R179). -/
theorem endOfByte_bits {b : EventBlock} {rep : BitVec 16} {k n : Nat} (hk : k < 2) (hn : n < 16) :
    (b.endOfByte (flagByteMask k) rep).flags.getLsbD n =
        (b.flags.getLsbD n && !(rep.getLsbD n && decide (n / 8 = k) && !b.seconds.getLsbD n)) ∧
      (b.endOfByte (flagByteMask k) rep).seconds.getLsbD n = (b.seconds.getLsbD n && !decide (n / 8 = k)) := by
  simp only [EventBlock.endOfByte, BitVec.getLsbD_and, BitVec.getLsbD_not, getLsbD_flagByteMask hk hn, hn,
    decide_true, Bool.true_and, and_self]

/-- Settles O27: what raising, and the end of a read-to-clear byte, do to the flags and marks. -/
theorem readToClearBytesLoseNothing : Obligations.ReadToClearBytesLoseNothing := by
  refine ⟨fun s e f => ⟨rfl, rfl, raise_isSet e f, raise_seconds_iff e f⟩, fun s rep k fields r hp hresp hk => ?_,
    fun s c k w => ⟨readingOutcome s.host.response c, writeOutcome_eq c k w, readingOutcome_iff⟩,
    fun s c fields r hp hresp => ?_, fun s t b hq hd ho hp hresp ht => ?_⟩
  · refine ⟨(s.events.endOfByte (flagByteMask k) rep).flags, (s.events.endOfByte (flagByteMask k) rep).seconds, ?_,
      fun n hn => ?_⟩
    · refine congrArg Host.Outcome.next ?_
      simp only [State.shiftFlagByte, showMarker_of_response hp, hresp, if_pos hk, State.flagByteEnds]
      rfl
    · obtain ⟨hflags, hseconds⟩ := endOfByte_bits (b := s.events) (rep := rep) hk hn
      rw [hflags, hseconds]
      split
      · next h => simp [h]
      · next h => simp [h]
  · refine congrArg Host.Outcome.next ?_
    have fresh : ((s.chan c).fresh && (s.chan c).rewrite) =
        if (s.chan c).rewrite then (s.chan c).fresh else false := by cases (s.chan c).rewrite <;> simp
    rw [← fresh]
    simp only [State.shiftOutcomeByte, showMarker_of_response hp, hresp, State.outcomeByteEnds, modChan_eq]
    rfl
  · obtain ⟨u, hu, hphase⟩ : ∃ u, s.showMarker = u ∧ u.host.phase = .response := by
      refine ⟨_, rfl, ?_⟩
      rw [State.showMarker, hp, hresp]
    have hstep : t = { u with serial := { u.serial with out := some 0x5A } } := by
      rw [step, hq] at ht
      rw [State.clock_out s hd (by rw [hp]; rfl), ho] at ht
      cases ht
      rw [← hu]
      simp only [Option.isNone_none, if_true, State.chooseByte, hp, hresp]
    have chosen : t.showMarker = t := showMarker_of_response (by rw [hstep]; exact hphase)
    have formed : u.host.response = some (s.formed Response.toForm) := by
      rw [← hu, State.showMarker, hp, hresp]
      rfl
    refine ⟨fun hc => congrArg Host.Outcome.next ?_, fun n hc => congrArg Host.Outcome.next ?_⟩
    · have hr : s.formed Response.toForm = ⟨.events s.events.flags 0, s.events.flagBytes, .ok⟩ := by
        rw [State.formed, hc]
        rfl
      rw [hr] at formed
      rw [State.shiftFlagByte, State.shiftFlagByte, chosen, hu, hstep]
      simp only [formed, State.flagByteEnds]
      rfl
    · have hr : s.formed Response.toForm =
          ⟨.channel (chanOf n.toNat) false, channelBytes (s.chan (chanOf n.toNat)), .ok⟩ := by
        rw [State.formed, hc]
        rfl
      rw [hr] at formed
      rw [State.shiftOutcomeByte, State.shiftOutcomeByte, chosen, hu, hstep]
      simp only [formed, State.outcomeByteEnds]
      rfl

end Sys2Proof.Machine
end

section
/-! PROOFS. JOIN and LEAVE (R137, R141 to R144), and what a leave does to the channels (R73). -/

namespace Sys2Proof.Machine

open Sys2Proof.Safety

variable {s t : State}

/-! ### Events raised with no READ_EVENTS under way -/

theorem eventBlock_ext {b c : EventBlock} (hf : b.flags = c.flags) (hs : b.seconds = c.seconds) (hm : b.mask = c.mask) :
    b = c := by
  rcases b with ⟨f, g, m⟩
  rcases c with ⟨f', g', m'⟩
  subst hf hs hm
  rfl

theorem raise_of_quiet (e : Event) (h : unshiftedFlags s.host.response = 0#16) :
    s.raise e = { s with events := { s.events with flags := s.events.flags ||| eventBit e } } := by
  simp [State.raise, State.raiseBits, h]

theorem offLine_mask (q : ChanState → Bool) (st : StationState) (cause : HaltCause) (e : Event) :
    (s.offLine q st cause e).events.mask = s.events.mask := by
  unfold State.offLine State.dropChannels State.raiseIf
  dsimp only
  split <;> rfl

theorem offLine_seconds (q : ChanState → Bool) (st : StationState) (cause : HaltCause) (e : Event)
    (h : unshiftedFlags s.host.response = 0#16) :
    (s.offLine q st cause e).events.seconds = s.events.seconds := by
  unfold State.offLine State.dropChannels State.raiseIf
  dsimp only
  split <;> simp [State.raise, State.raiseBits, State.cancelShed, State.goQuiet, State.startSampler, h]

/-- An entry to UNJOINED or HALTED with no READ_EVENTS under way, its events written out. -/
theorem offLine_events (q : ChanState → Bool) (st : StationState) (cause : HaltCause) (e : Event)
    (h : unshiftedFlags s.host.response = 0#16) : (s.offLine q st cause e).events = { s.events with
      flags := s.events.flags ||| (if (∃ c, q (s.chan c).state = true) then eventBit .channelOutcome else 0#16) |||
        eventBit e } := by
  exact eventBlock_ext (offLine_flags q st cause e) (offLine_seconds q st cause e h) (offLine_mask q st cause e)

theorem dropsAtLeave_iff (st : ChanState) : ChanState.dropsAtLeave st = true ↔ entryStateOf st ≠ none := by
  cases st <;> simp [ChanState.dropsAtLeave, entryStateOf]

/-! ### O19 -/

theorem answer_waiting (cmd : HostCmd) (r : ResultCode) (h : cmd.fieldCount = 0) :
    (waiting cmd s).answer cmd r = answered cmd ⟨.plain, [], r⟩ s := by
  unfold State.answer HostCmd.respond
  rw [h]
  split <;> rfl

/-- JOIN's checks of the settings, in UNJOINED (R137). -/
theorem joinCheck_unjoined (hs : s.station = .unjoined) : s.joinCheck =
    if s.settings.stationNumber = 0 ∨ s.settings.silenceLimit < 2 * s.settings.summaryInterval ∨
      64 * (25 * 2 ^ s.settings.sliceLength) < 1024 * bitMicros s.settings.lineRate then .badSetting else .ok := by
  unfold State.joinCheck sliceMicros
  rw [if_neg (not_not.2 hs)]
  by_cases h1 : s.settings.stationNumber = 0
  · rw [if_pos h1, if_pos (.inl h1)]
  · rw [if_neg h1]
    by_cases h2 : s.settings.silenceLimit < 2 * s.settings.summaryInterval
    · rw [if_pos h2, if_pos (.inr (.inl h2))]
    · rw [if_neg h2]
      simp only [h1, h2, false_or]

/-- The command LEAVE in LISTENING, with a response just discarded (R144). -/
theorem leaveDone_listening (h : unshiftedFlags s.host.response = 0#16) : s.leaveDone = { offTheLine s with
    station := .unjoined
    haltCause := .none
    channels := s.leaveDone.channels
    events := { s.events with flags := s.events.flags ||| eventBit .leaveDone |||
      (if (∃ c : Chan, entryStateOf (s.chan c).state ≠ none) then eventBit .channelOutcome else 0#16) } } := by
  have events : s.leaveDone.events = { s.events with flags := s.events.flags ||| eventBit .leaveDone |||
      (if (∃ c : Chan, entryStateOf (s.chan c).state ≠ none) then eventBit .channelOutcome else 0#16) } := by
    rw [leaveDone_eq, offLine_events _ _ _ _ h]
    simp only [dropsAtLeave_iff, BitVec.or_assoc, BitVec.or_comm (eventBit .leaveDone)]
  rw [← events]
  exact offLine_eq _ _ _ _

/-- Settles O19: the checks in their order, and the station entered. -/
theorem joinAndLeaveOffTheLine : Obligations.JoinAndLeaveOffTheLine := by
  intro s h
  have join := (exec_carryOut .join h (by simp)).trans (congrArg Host.Outcome.next carryOut_join)
  have leave := (exec_carryOut .leave h (by simp)).trans (congrArg Host.Outcome.next carryOut_leave)
  have left : ∀ {r y}, (waiting .leave s).leaveCheck = r → (waiting .leave s).leaveCommand = y →
      exec .leave s = .next (State.answer .leave r y) := fun hr hy => by
    rw [← hr, ← hy]
    exact leave
  refine ⟨fun hs => ?_, fun hs hbad => ?_, fun hs h1 h2 h3 => ?_, fun hs => ?_, fun hs => ?_, fun hs => ?_, fun hs => ?_⟩
  · refine join.trans ?_
    rw [show (waiting .join s).joinCheck = .wrongState from if_pos hs]
    exact congrArg Host.Outcome.next (answer_waiting .join .wrongState rfl)
  · refine join.trans ?_
    rw [show (waiting .join s).joinCheck = .badSetting from (joinCheck_unjoined hs).trans (if_pos hbad)]
    exact congrArg Host.Outcome.next (answer_waiting .join .badSetting rfl)
  · refine join.trans ?_
    rw [show (waiting .join s).joinCheck = .ok from (joinCheck_unjoined hs).trans (if_neg (by simp; omega))]
    rfl
  · refine (left (r := .wrongState) (y := waiting .leave s) ?_ ?_).trans ?_
    · rw [State.leaveCheck, show (waiting .leave s).station = .unjoined from hs]
    · rw [State.leaveCommand, show (waiting .leave s).station = .unjoined from hs]
    · exact congrArg Host.Outcome.next (answer_waiting .leave .wrongState rfl)
  · refine (left (r := .inProgress) (y := waiting .leave s) ?_ ?_).trans ?_
    · rw [State.leaveCheck, show (waiting .leave s).station = .leaving from hs]
    · rw [State.leaveCommand, show (waiting .leave s).station = .leaving from hs]
    · exact congrArg Host.Outcome.next (answer_waiting .leave .inProgress rfl)
  · refine (left (r := .ok) ?_ rfl).trans ?_
    · rw [State.leaveCheck, show (waiting .leave s).station = .halted from hs]
    · rw [State.leaveCommand, show (waiting .leave s).station = .halted from hs]
      dsimp only
      rw [raise_of_quiet _ (by rfl)]
      rfl
  · refine ⟨(waiting .leave s).leaveDone.channels, _, (left (r := .ok) (y := (waiting .leave s).leaveDone) ?_ ?_).trans ?_, rfl,
      fun c => ?_⟩
    · rw [State.leaveCheck, show (waiting .leave s).station = .listening from hs]
    · rw [State.leaveCommand, show (waiting .leave s).station = .listening from hs]
    · rw [leaveDone_listening (by rfl)]
      rfl
    · have record := offLine_chan (s := waiting .leave s) ChanState.dropsAtLeave .unjoined .none .leaveDone c
      refine record.trans ?_
      have drops := dropsAtLeave_iff (s.chan c).state
      by_cases hdrop : entryStateOf (s.chan c).state = none
      · rw [if_pos hdrop, if_neg (by rw [show (waiting .leave s).chan c = s.chan c from rfl, drops]; exact not_not.2 hdrop)]
        rfl
      · rw [if_neg hdrop, if_pos (by exact drops.2 hdrop)]
        rfl

end Sys2Proof.Machine
end

section
/-! PROOFS. The work that waits for the Table Unit: withdrawals, the channel effects of a leave, the refill (R17, R73,
R126); and a LEAVE taken on the line (R142). -/

namespace Sys2Proof.Machine

open Sys2Proof.Safety

variable {s t : State}

/-! ### What a leave does to the channels -/

/-- A channel that a leave withdraws (R73). -/
abbrev Withdrawn (ch : Channel) : Prop := ch.state = .placing ∨ ch.state = .claiming

/-- A channel record after a leave's effect on it (R73). -/
def leftRecord (reading : Bool) (ch : Channel) : Channel :=
  match ch.state with
  | .placing => { ch.toIdle with outcome := .withdrawn, outcomeWindow := none, fresh := true, rewrite := ch.rewrite || reading }
  | .claiming => { ch.toIdle with outcome := .withdrawn, outcomeWindow := none, fresh := true, rewrite := ch.rewrite || reading }
  | _ => { ch with releasePending := false, reRequest := false }

theorem leftRecord_withdrawn {b : Bool} {ch : Channel} (h : Withdrawn ch) : leftRecord b ch = { ch with
    state := .idle, window := none, releasePending := false, reRequest := false, live := false
    outcome := .withdrawn, outcomeWindow := none, fresh := true, rewrite := ch.rewrite || b } := by
  rcases h with h | h <;> rw [leftRecord, h] <;> rfl

theorem leftRecord_other {b : Bool} {ch : Channel} (h : ¬ Withdrawn ch) :
    leftRecord b ch = { ch with releasePending := false, reRequest := false } := by
  unfold leftRecord
  split
  · next hp => exact absurd (.inl hp) h
  · next hc => exact absurd (.inr hc) h
  · rfl

/-- The entry of a CLAIMING channel freed (R17). -/
def freeClaiming (s : State) (b : Book) (c : Chan) : Book :=
  if (s.chan c).state = .claiming then b.dropKey s.settings.stationNumber c else b

theorem freeClaiming_congr {c : Chan} (b : Book) (hs : t.settings = s.settings) (hc : t.chan c = s.chan c) :
    freeClaiming t b c = freeClaiming s b c := by
  rw [freeClaiming, freeClaiming, hs, hc]

/-- The channels of a list after a leave's effect on each in turn: their entries, their records and the event (R73). -/
def LeftChannels (l : List Chan) (s t : State) : Prop :=
  ∃ (chans : Vector Channel 8) (events : EventBlock),
    t = { s with book := l.foldl (freeClaiming s) s.book, channels := chans, events := events } ∧
      (∀ d, chans.get d = if d ∈ l then leftRecord (readingOutcome s.host.response d) (s.chan d) else s.chan d) ∧
      events.mask = s.events.mask ∧
      events.flags = (s.events.flags ||| if ∃ c ∈ l, Withdrawn (s.chan c) then eventBit .channelOutcome else 0#16) ∧
      (unshiftedFlags s.host.response = 0#16 → events.seconds = s.events.seconds)

/-- A channel ended with an outcome: one record put in, and the event (R53, R71). -/
theorem endChannel_eq (c : Chan) (k : OutcomeKind) : s.endChannel c k = (s.setChan c { (s.chan c).toIdle with
    outcome := k, outcomeWindow := none, fresh := true
    rewrite := (s.chan c).rewrite || readingOutcome s.host.response c }).raise .channelOutcome := by
  unfold State.endChannel
  rw [writeOutcome_eq, modChan_eq, State.setChan_setChan, State.setChan_chan, if_pos rfl]
  rfl

theorem leaveChannel_eq (c : Chan) : s.leaveChannel c = { s with
    book := freeClaiming s s.book c
    channels := s.channels.set c (leftRecord (readingOutcome s.host.response c) (s.chan c))
    events := if Withdrawn (s.chan c) then (s.raise .channelOutcome).events else s.events } := by
  have marks : ∀ (x : State) (ch : Channel) (e : EventBlock),
      State.modChan c (fun ch => { ch with releasePending := false, reRequest := false }) { x.setChan c ch with events := e } =
        { x.setChan c { ch with releasePending := false, reRequest := false } with events := e } := fun x ch e => by
    have own : State.chan { x.setChan c ch with events := e } c = ch := (State.setChan_chan x c c ch).trans (if_pos rfl)
    rw [modChan_eq, own]
    exact congrArg (fun y : State => { y with events := e }) (State.setChan_setChan x c ch _)
  unfold State.leaveChannel
  split
  · next h =>
    have hw : Withdrawn (s.chan c) := .inl h
    have hb : freeClaiming s s.book c = s.book := if_neg (by simp [h])
    rw [endChannel_eq, if_pos hw, hb, leftRecord, h]
    exact marks s _ _
  · next h =>
    have hw : Withdrawn (s.chan c) := .inr h
    have hb : freeClaiming s s.book c = s.book.dropKey s.settings.stationNumber c := if_pos h
    rw [State.withdraw, if_pos h, endChannel_eq, if_pos hw, hb, leftRecord, h]
    exact marks { s with book := s.book.dropKey s.settings.stationNumber c } _ _
  · next h1 h2 =>
    have hw : ¬ Withdrawn (s.chan c) := fun h => h.elim h1 h2
    have hb : freeClaiming s s.book c = s.book := if_neg h2
    rw [if_neg hw, hb, leftRecord_other hw]
    rfl

theorem leaveChannel_left (c : Chan) : LeftChannels [c] s (s.leaveChannel c) := by
  refine ⟨_, _, leaveChannel_eq c, fun d => ?_, ?_, ?_, fun h => ?_⟩
  · rw [get_set]
    by_cases h : d = c
    · subst h
      simp
    · rw [if_neg h, if_neg (by simpa using h)]
      rfl
  · split <;> rfl
  · by_cases hw : Withdrawn (s.chan c)
    · rw [if_pos hw, if_pos ⟨c, by simp, hw⟩]
      rfl
    · rw [if_neg hw, if_neg (by simpa using hw)]
      simp
  · split
    · simp [raise_of_quiet _ h]
    · rfl

/-- The effect of a leave on a list of channels, one after the other (R73). -/
theorem leaveEach_left (l : List Chan) (hl : l.Nodup) : ∀ s : State,
    LeftChannels l s (l.foldl (fun s c => s.leaveChannel c) s) := by
  induction l with
  | nil => exact fun s => ⟨s.channels, s.events, rfl, fun d => by simp [State.chan], rfl, by simp, fun _ => rfl⟩
  | cons c l ih =>
    intro s
    obtain ⟨hc, hnodup⟩ := List.nodup_cons.1 hl
    obtain ⟨chans, events, hs, hchan, hmask, hflags, hsec⟩ := leaveChannel_left (s := s) c
    rw [List.foldl_cons, hs]
    obtain ⟨chans', events', ht, hchan', hmask', hflags', hsec'⟩ := ih hnodup { s with
      book := [c].foldl (freeClaiming s) s.book, channels := chans, events := events }
    have later : ∀ d ∈ l, chans.get d = s.chan d := fun d hd => by
      rw [hchan, if_neg (by simpa using fun h : d = c => hc (h ▸ hd))]
    have books : l.foldl (freeClaiming { s with
          book := [c].foldl (freeClaiming s) s.book, channels := chans, events := events })
        ([c].foldl (freeClaiming s) s.book) = (c :: l).foldl (freeClaiming s) s.book :=
      List.foldl_ext _ _ _ fun b d hd => freeClaiming_congr b rfl (later d hd)
    refine ⟨chans', events', ?_, fun d => ?_, hmask'.trans hmask, ?_, fun h => (hsec' h).trans (hsec h)⟩
    · rw [ht, ← books]
    · rw [hchan']
      by_cases hd : d ∈ l
      · rw [if_pos hd, if_pos (List.mem_cons_of_mem c hd)]
        exact congrArg _ (later d hd)
      · rw [if_neg hd]
        refine (hchan d).trans ?_
        simp [hd]
    · rw [hflags', hflags, BitVec.or_assoc]
      have same : (∃ d ∈ l, Withdrawn (chans.get d)) ↔ ∃ d ∈ l, Withdrawn (s.chan d) :=
        exists_congr fun d => and_congr_right fun hd => by rw [later d hd]
      have first : (∃ d ∈ c :: l, Withdrawn (s.chan d)) ↔ Withdrawn (s.chan c) ∨ ∃ d ∈ l, Withdrawn (s.chan d) := by simp
      have head : (∃ d ∈ [c], Withdrawn (s.chan d)) ↔ Withdrawn (s.chan c) := by simp
      have union : ∀ (p q : Prop) [Decidable p] [Decidable q] (x : BitVec 16),
          ((if p then x else 0#16) ||| if q then x else 0#16) = if p ∨ q then x else 0#16 := fun p q _ _ x => by
        by_cases hp : p <;> by_cases hq : q <;> simp [hp, hq]
      congr 1
      refine Eq.trans ?_ (if_congr first.symm rfl rfl)
      rw [← union]
      exact congrArg₂ _ (if_congr head rfl rfl) (if_congr same rfl rfl)

/-- The effect of a leave on every channel, with the clearing of the resync set (R73, R131). -/
theorem leaveChannels_eq : ∃ (chans : Vector Channel 8) (events : EventBlock),
    s.leaveChannels = { s with
      book := (List.finRange 8).foldl (freeClaiming s) s.book
      channels := chans
      events := events
      peers := s.peers.map (fun p : Peer => { p with awaiting := false })
      unit := { s.unit with leaveWaiting := false } } ∧
    (∀ d, chans.get d = leftRecord (readingOutcome s.host.response d) (s.chan d)) ∧
    events.mask = s.events.mask ∧
    events.flags = (s.events.flags ||| if ∃ c, Withdrawn (s.chan c) then eventBit .channelOutcome else 0#16) ∧
    (unshiftedFlags s.host.response = 0#16 → events.seconds = s.events.seconds) := by
  obtain ⟨chans, events, ht, hchan, hmask, hflags, hsec⟩ := leaveEach_left (List.finRange 8) (List.nodup_finRange 8) s
  refine ⟨chans, events, ?_, fun d => ?_, hmask, hflags.trans ?_, hsec⟩
  · unfold State.leaveChannels
    rw [ht]
  · rw [hchan, if_pos (List.mem_finRange d)]
  · congr 1
    exact if_congr (by simp) rfl rfl

/-! ### O47 -/

/-- Settles O47: each of the three rows, where its work waits. -/
theorem waitingWorkRunsWhenTheUnitIsFree : Obligations.WaitingWorkRunsWhenTheUnitIsFree := by
  intro s hj
  have free : ∀ x : State, (if s.unitFree then x else s) = x := fun x => if_pos (by simp [State.unitFree, hj])
  refine ⟨fun c hc => ⟨fun hn => ?_, fun hcl => ?_⟩, fun hw => ?_, fun hw => ⟨fun hd => ?_, fun hd hp => ?_, fun hd hp => ?_⟩⟩
  · refine congrArg Host.Outcome.next ((free _).trans ?_)
    rw [State.waitingWithdrawal, if_pos hc, State.withdraw, if_neg (by exact hn)]
  · refine congrArg Host.Outcome.next ((free _).trans ?_)
    rw [State.waitingWithdrawal, if_pos hc, State.withdraw, if_pos (by exact hcl)]
    rfl
  · obtain ⟨chans, events, ht, hchan, hmask, hflags, -⟩ := leaveChannels_eq (s := s)
    refine ⟨s.leaveChannels, congrArg Host.Outcome.next ((free _).trans (if_pos hw)), ?_, ?_, ?_, fun c => ⟨fun hs => ?_,
      fun h1 h2 => ?_⟩⟩
    · rw [ht]
      rfl
    · rw [ht]
      exact hmask
    · rw [ht]
      exact hflags.trans (congrArg _ (if_congr Iff.rfl rfl rfl))
    · rw [ht]
      exact (hchan c).trans (leftRecord_withdrawn hs)
    · rw [ht]
      exact (hchan c).trans (leftRecord_other fun h => h.elim h1 h2)
  · refine congrArg Host.Outcome.next ((free _).trans ?_)
    rw [State.waitingRefill, if_pos hw, if_neg hd]
  · refine congrArg Host.Outcome.next ((free _).trans ?_)
    rw [State.waitingRefill, if_pos hw, if_pos hd, State.refill, if_neg (by simpa using hp)]
  · refine congrArg Host.Outcome.next ((free _).trans ?_)
    rw [State.waitingRefill, if_pos hw, if_pos hd, State.refill, if_pos (by simp [hp]), State.returnToJoined,
      if_pos ⟨by exact hd, by simp [hp]⟩]
    simp [hp]

end Sys2Proof.Machine
end

section
/-! PROOFS. A LEAVE taken on the line (R142). -/

namespace Sys2Proof.Machine

open Sys2Proof.Safety

variable {s t : State}

/-! ### Frame starts outside JOINED, DESYNC and LISTENING -/

theorem frameChannels_offline (h : s.station.online = false) : s.frameChannels = s.redrive := by
  rw [State.frameChannels, if_neg (by simp [h])]

/-- In LEAVING a frame start counts for the sweep and evaluates the outputs (R48, R49, R67). -/
theorem frameStart_offline (ho : s.station.online = false) (hl : s.station ≠ .listening) :
    s.frameStart = State.redrive { s with timer := { s.timer with
      sweepPending := min Config.silenceCap (s.timer.sweepPending + 1) } } := by
  unfold State.frameStart
  dsimp only
  rw [frameChannels_offline (by exact ho), if_neg (by simp [ho]), if_neg (by exact hl)]

/-- With no live channel every output is deasserted (R67). -/
theorem redrive_dark (h : ∀ c, (s.chan c).live = false) : s.redrive = { s with driven := Vector.replicate 8 false } := by
  have driven : (Vector.ofFn fun c => (s.chan c).drives s.timer.slice) = Vector.replicate 8 false :=
    vector_ext_get fun c => by
      rw [get_ofFn, get_replicate]
      simp [Channel.drives, h c]
  rw [State.redrive, driven]

/-! ### The state after a leave has begun -/

/-- The end of a hold with no SYNC left, in LEAVING with no live channel (R44, R48). -/
theorem holdWithoutSync_leaving (hs : s.station = .leaving) (hl : ∀ c, (s.chan c).live = false)
    (hd : s.driven = Vector.replicate 8 false) : s.holdWithoutSync = { s with
      timer := if s.timer.hold = true ∧ present TxBody.isSync s.txQueue = false then
          { s.timer with
            slice := 0
            frame := (s.timer.frame + 1) % 256
            hold := false
            sweepPending := min 64 (s.timer.sweepPending + 1) }
        else s.timer } := by
  unfold State.holdWithoutSync
  by_cases h : s.timer.hold = true ∧ present TxBody.isSync s.txQueue = false
  · rw [if_pos ⟨hs, h.1, by simp [h.2]⟩, if_pos h, State.ownFrame, frameStart_offline (by simp [hs, StationState.online])
      (by simp [hs]), redrive_dark (by exact hl), ← hd]
    rfl
  · rw [if_neg (fun hh => h ⟨hh.2.1, by simpa using hh.2.2⟩), if_neg h, State.offerSync,
      if_neg (by simp [hs, StationState.online])]

/-- The items a leave withdraws are the CLAIMs, RELEASEs and SUMMARYs: what it leaves are the other kinds (R88). -/
theorem endsAtLeave_eq (b : TxBody) : (!b.endsAtLeave) = (b.isSync || b.isShed || b.isLeave) := by cases b <;> rfl

theorem withdrawItems_endsAtLeave (q : List TxItem) : withdrawItems TxBody.endsAtLeave q =
    q.filter fun i => i.inAttempt || i.body.isSync || i.body.isShed || i.body.isLeave := by
  unfold withdrawItems
  simp only [endsAtLeave_eq, Bool.or_assoc]

theorem present_sync_placeLeave (q : List TxItem) : present TxBody.isSync (placeLeave q) = present TxBody.isSync q := by
  unfold placeLeave
  split
  · rfl
  · simp [present, placeTail, TxItem.new, TxBody.isSync]

/-- A leave takes no SYNC away (R88). -/
theorem present_sync_left (q : List TxItem) :
    present TxBody.isSync (placeLeave (withdrawItems TxBody.endsAtLeave q)) = false ↔ ∀ i ∈ q, i.body.isSync = false := by
  rw [present_sync_placeLeave]
  unfold present withdrawItems
  rw [List.any_eq_false]
  refine ⟨fun h i hi => ?_, fun h i hi => by simp [h i (List.mem_of_mem_filter hi)]⟩
  by_contra hs
  have sync : i.body.isSync = true := by simpa using hs
  refine h i (List.mem_filter.2 ⟨hi, ?_⟩) sync
  rw [endsAtLeave_eq, sync]
  simp

theorem leftRecord_live {b : Bool} {ch : Channel} (h : ch.live = false) : (leftRecord b ch).live = false := by
  unfold leftRecord
  split
  · rfl
  · rfl
  · exact h

theorem readingOutcome_waiting (cmd : HostCmd) (c : Chan) :
    readingOutcome (waiting cmd s).leaveStarted.host.response c = false := rfl

/-- The state in which a leave has begun, its channel effects carried out where no job runs (R73, R142). -/
theorem beginLeave_eq : s.beginLeave = State.holdWithoutSync
    (if s.leaveStarted.unit.job.isNone then s.leaveStarted.waitingLeave else s.leaveStarted) := rfl

/-! ### O20 -/

/-- The occupancy map is freed of the CLAIMING entries in turn. -/
theorem freeClaiming_leaveStarted (b : Book) (l : List Chan) : l.foldl (freeClaiming s.leaveStarted) b =
    l.foldl (fun b c => if (s.chan c).state = .claiming then b.dropKey s.settings.stationNumber c else b) b :=
  List.foldl_ext _ _ _ fun b c _ => by
    unfold freeClaiming
    rw [leaveStarted_chan]
    rfl

/-- Settles O20: the leave as it begins, then its effect on the channels or their waiting, then the end of a hold. -/
theorem leaveTakenOnTheLine : Obligations.LeaveTakenOnTheLine := by
  intro s h ho
  have leave := (exec_carryOut .leave h (by simp)).trans (congrArg Host.Outcome.next carryOut_leave)
  have check : (waiting .leave s).leaveCheck = .ok := by
    rw [State.leaveCheck]
    rcases StationState.online_iff.1 ho with hs | hs <;> rw [show (waiting .leave s).station = _ from hs]
  have command : (waiting .leave s).leaveCommand = (waiting .leave s).beginLeave := by
    rw [State.leaveCommand]
    rcases StationState.online_iff.1 ho with hs | hs <;> rw [show (waiting .leave s).station = _ from hs]
  rw [check, command, beginLeave_eq] at leave
  refine ⟨_, leave, ?_⟩
  have hold : ((waiting .leave s).leaveStarted.timer.hold = true ∧
      present TxBody.isSync (waiting .leave s).leaveStarted.txQueue = false) ↔
        s.timer.hold = true ∧ ∀ i ∈ s.txQueue, i.body.isSync = false :=
    and_congr Iff.rfl (present_sync_left s.txQueue)
  have queue := withdrawItems_endsAtLeave s.txQueue
  by_cases hj : s.unit.job = none
  · obtain ⟨chans, events, hx, hchan, hmask, hflags, hsec⟩ := leaveChannels_eq (s := (waiting .leave s).leaveStarted)
    have cleared : (if (waiting .leave s).leaveStarted.unit.job.isNone then (waiting .leave s).leaveStarted.waitingLeave
        else (waiting .leave s).leaveStarted) = (waiting .leave s).leaveStarted.leaveChannels :=
      (if_pos (by exact Option.isNone_iff_eq_none.2 hj)).trans (if_pos rfl)
    have dark : ∀ c, (chans.get c).live = false := fun c => by
      rw [hchan]
      exact leftRecord_live (by rw [leaveStarted_chan])
    have flags : events = { s.events with flags := s.events.flags |||
        (if s.unit.job = none ∧ (∃ c : Chan, (s.chan c).state = .placing ∨ (s.chan c).state = .claiming) then
          eventBit .channelOutcome else 0#16) } := by
      refine eventBlock_ext (hflags.trans (congrArg _ (if_congr ?_ rfl rfl))) (hsec rfl) hmask
      simp only [leaveStarted_chan, hj, true_and]
      exact Iff.rfl
    rw [cleared, holdWithoutSync_leaving (s := (waiting .leave s).leaveStarted.leaveChannels) (by rw [hx]; rfl)
      (by rw [hx]; exact dark) (by rw [hx]; rfl), hx, freeClaiming_leaveStarted, flags]
    refine ⟨?_, fun c => ?_⟩
    · have free : s.unit.job.isSome = false := by simp [hj]
      rw [free, ← queue]
      simp only [if_pos hj, hold]
      rfl
    · rw [if_pos hj]
      refine (hchan c).trans ?_
      rw [leaveStarted_chan]
      cases hs : (s.chan c).state with
      | placing =>
        refine (leftRecord_withdrawn (by exact .inl hs)).trans ?_
        simp only [readingOutcome_waiting, Bool.or_false]
        rfl
      | claiming =>
        refine (leftRecord_withdrawn (by exact .inr hs)).trans ?_
        simp only [readingOutcome_waiting, Bool.or_false]
        rfl
      | _ => exact leftRecord_other (by rintro (h | h) <;> exact absurd (h.symm.trans hs) (by simp))
  · have begun : (if (waiting .leave s).leaveStarted.unit.job.isNone then (waiting .leave s).leaveStarted.waitingLeave
        else (waiting .leave s).leaveStarted) = (waiting .leave s).leaveStarted :=
      if_neg (by exact fun h => hj (Option.isNone_iff_eq_none.1 h))
    rw [begun, holdWithoutSync_leaving rfl (fun c => by rw [leaveStarted_chan]) rfl]
    refine ⟨?_, fun c => ?_⟩
    · have busy : s.unit.job.isSome = true := by simpa [Option.isSome_iff_ne_none] using hj
      have none : (if s.unit.job = .none ∧ (∃ c : Chan, (s.chan c).state = .placing ∨ (s.chan c).state = .claiming) then
          eventBit .channelOutcome else 0#16) = 0#16 := if_neg fun h => hj h.1
      rw [busy, ← queue, none, BitVec.or_zero]
      simp only [if_neg hj, hold]
      rfl
    · rw [if_neg hj]
      exact leaveStarted_chan c

end Sys2Proof.Machine
end

section
/-! PROOFS. Commands that wait for their HOST job, SHED_NOW, refused commands and the held command (R57, R166 to R174). -/

namespace Sys2Proof.Machine

open Sys2Proof.Safety

variable {s t : State}

/-! ### Checks of REQUEST and RELEASE -/

theorem requestParamsOk_iff {c m st l : Byte} : requestParamsOk c m st l = true ↔ ¬ badRequest c m st l := by
  simp only [requestParamsOk, Bool.and_eq_true, Bool.or_eq_true, decide_eq_true_eq, beq_iff_eq, badRequest]
  omega

theorem not_online_of_not_running {st : StationState} (h : st.running = false) : st.online = false := by
  cases st <;> first | rfl | cases h

theorem requestCheck_bad {c m st l : Byte} (h : badRequest c m st l) : s.requestCheck c m st l = .badParameter := by
  rw [State.requestCheck, Bool.eq_false_iff.2 fun ok => requestParamsOk_iff.1 ok h]
  rfl

theorem requestCheck_good {c m st l : Byte} (h : ¬ badRequest c m st l) : s.requestCheck c m st l =
    if s.settings.weight.get (chanOf c.toNat) = 0 then .channelDisabled
    else if !s.station.online then .wrongState
    else if (s.chan (chanOf c.toNat)).state ≠ .idle then .channelBusy
    else .ok := by
  rw [State.requestCheck, requestParamsOk_iff.2 h]
  rfl

theorem chanOf_val {b : Byte} {c : Chan} (h : b.toNat = c.val) : chanOf b.toNat = c :=
  Fin.ext ((congrArg (· % 8) h).trans (Nat.mod_eq_of_lt c.isLt))

/-! ### The taking of a RELEASE -/

theorem take_release_unmarked {c : Byte} (h : s.setsPending (.release c) = false) :
    s.take (.release c) = State.carryOut ⟨.release c, false⟩ (waiting (.release c) s) := by
  rw [State.take, State.markTaken, h]
  rfl

theorem take_release_marked {c : Byte} (h : s.setsPending (.release c) = true) :
    s.take (.release c) = State.carryOut ⟨.release c, true⟩ { s.setChan (chanOf c.toNat)
        { s.chan (chanOf c.toNat) with releasePending := true } with
      host := { s.host with current := some ⟨.release c, true⟩, response := none, phase := .waiting } } := by
  rw [State.take, State.markTaken, h]
  rfl

theorem setsPending_iff {c : Byte} : s.setsPending (.release c) = true ↔
    c.toNat ≤ 7 ∧ s.station.online = true ∧ s.unit.job = some (.placement (chanOf c.toNat)) := by
  simp [State.setsPending, and_assoc]

/-- A RELEASE carried out where no job takes it (R56, R173). -/
theorem releaseCheck_offline {c : Byte} {b : Bool} (h : s.station.online = false) : s.releaseCheck c b =
    if 7 < c.toNat then .badParameter else if b then .ok else .wrongState := by
  rw [State.releaseCheck, h]
  rfl

/-! ### O28 -/

/-- Settles O28: each command's check at the port, and what waits. -/
theorem jobCommandsWaitAtThePort : Obligations.JobCommandsWaitAtThePort := by
  intro s h
  refine ⟨fun c m st l => ?_, fun c => ?_, fun i => ?_, fun i => ?_, fun f n => ?_⟩
  · have request := (exec_carryOut (.request c m st l) h (by simp)).trans
      (congrArg Host.Outcome.next (carryOut_request c m st l))
    have refused : s.station.running = false → ∀ r, s.requestCheck c m st l = r →
        exec (.request c m st l) s = .next (answered (.request c m st l) ⟨.plain, [], r⟩ s) := fun hr r hc => by
      refine request.trans (congrArg Host.Outcome.next ((if_neg (by simp [waiting, hr])).trans ?_))
      rw [show (waiting (.request c m st l) s).requestCheck c m st l = r from hc]
      exact answer_waiting _ r rfl
    refine ⟨fun hr => request.trans (congrArg Host.Outcome.next (if_pos hr)), fun hr hb => refused hr _ (requestCheck_bad hb),
      fun ch hr hb hc => refused hr _ ?_⟩
    rw [requestCheck_good hb, chanOf_val hc, not_online_of_not_running hr]
    rfl
  · have release := exec_of_ready (.release c) h
    refine ⟨fun hr => release.trans ?_, fun hr hno => release.trans ?_, fun ch hc ho hj => release.trans ?_⟩
    · have unmarked : s.setsPending (.release c) = false := by
        rw [Bool.eq_false_iff, Ne, setsPending_iff, not_online_of_not_running hr]
        simp
      refine congrArg Host.Outcome.next ((take_release_unmarked unmarked).trans ?_)
      rw [carryOut_release, if_neg (by simp [waiting, hr]), releaseCheck_offline (by exact not_online_of_not_running hr)]
      exact answer_waiting _ _ rfl
    · have unmarked : s.setsPending (.release c) = false := by
        rw [Bool.eq_false_iff, Ne, setsPending_iff]
        rintro ⟨hc, ho, hj⟩
        have hval : c.toNat = (chanOf c.toNat).val := (Nat.mod_eq_of_lt (by omega)).symm
        exact hno _ hval ho hj
      refine congrArg Host.Outcome.next ((take_release_unmarked unmarked).trans ?_)
      rw [carryOut_release, if_pos (by exact hr)]
    · have marked : s.setsPending (.release c) = true := by
        rw [setsPending_iff, chanOf_val hc]
        exact ⟨by have := ch.isLt; omega, ho, hj⟩
      refine congrArg Host.Outcome.next ((take_release_marked marked).trans ?_)
      rw [carryOut_release, if_pos (by exact StationState.running_of_online ho), chanOf_val hc]
  · have read := (exec_carryOut (.readEntry i) h (by simp)).trans (congrArg Host.Outcome.next (carryOut_readEntry i))
    refine read.trans (congrArg Host.Outcome.next ?_)
    split <;> rfl
  · have read := (exec_carryOut (.readPeer i) h (by simp)).trans (congrArg Host.Outcome.next (carryOut_readPeer i))
    refine read.trans (congrArg Host.Outcome.next ?_)
    split <;> rfl
  · have read := (exec_carryOut (.readMap f n) h (by simp)).trans (congrArg Host.Outcome.next (carryOut_readMap f n))
    refine read.trans (congrArg Host.Outcome.next ?_)
    have ok : mapParamsOk f n = true ↔ ¬ (n.toNat = 0 ∨ 64 < n.toNat) ∧ ¬ 64 < f.toNat + n.toNat := by
      simp only [mapParamsOk, Bool.and_eq_true, decide_eq_true_eq]
      omega
    by_cases h1 : n.toNat = 0 ∨ 64 < n.toNat
    · have none : (HostCmd.readMap f n).fieldCount = 0 := if_neg (by omega)
      rw [if_pos h1, if_neg (by rw [ok]; exact fun hk => hk.1 h1), answer_waiting _ _ none]
    · rw [if_neg h1]
      by_cases h2 : 64 < f.toNat + n.toNat
      · have all : (HostCmd.readMap f n).fieldCount = 4 * n.toNat := if_pos (by omega)
        rw [if_pos h2, if_neg (by rw [ok]; exact fun hk => hk.2 h2), State.answer, HostCmd.respond, all]
        rfl
      · rw [if_neg h2, if_pos (ok.2 ⟨h1, h2⟩)]

end Sys2Proof.Machine
end

section
/-! PROOFS. Causes of shedding (R154, R155), refused commands (R171), and the end of a HOST job (R168, R169). -/

namespace Sys2Proof.Machine

open Sys2Proof.Safety

variable {s t : State}

/-! ### Causes of shedding -/

theorem shedCause_offline {a b : Bool} (h : s.station.online = false) : s.shedCause a b = s := by
  rw [State.shedCause, if_neg (by simp [h])]

theorem sendShed_online (h : s.station.online = true) : s.sendShed = { s with txQueue := placeShed s.txQueue } := by
  rw [State.sendShed, if_pos h]

theorem shedCause_idle {a b : Bool} (ho : s.station.online = true) (hs : s.shed.state = .idle) :
    s.shedCause a b = State.raise .shedStart { s.shedStarted with
      txQueue := if b then placeShed s.txQueue else s.txQueue } := by
  rw [State.shedCause, if_pos ho, hs]
  have send := sendShed_online (s := s.shedStarted) ho
  cases b
  · rfl
  · exact congrArg (State.raise .shedStart) send

theorem shedCause_shedding {a b : Bool} (ho : s.station.online = true) (hs : s.shed.state = .shedding) :
    s.shedCause a b = { s with
      shed := { s.shed with
        hold := s.settings.shedHold
        resend := if a then resendInterval s.settings.shedHold else s.shed.resend }
      txQueue := if b then placeShed s.txQueue else s.txQueue } := by
  rw [State.shedCause, if_pos ho, hs]
  cases b
  · rfl
  · exact sendShed_online (s := { s with shed := { s.shed with
      hold := s.settings.shedHold
      resend := if a then resendInterval s.settings.shedHold else s.shed.resend } }) ho

/-- An entry to SHEDDING takes the sheddable outputs off and leaves the others (R66). -/
theorem shedStarted_outputs (h : OutputsSafe s) (c : Chan) :
    (s.settings.sheddable.get c = true →
      s.shedStarted.chan c = { s.chan c with shedSuspended := true, live := false } ∧
        s.shedStarted.driven.get c = false) ∧
    (s.settings.sheddable.get c = false →
      s.shedStarted.chan c = s.chan c ∧ s.shedStarted.driven.get c = s.driven.get c) := by
  rw [shedStarted_driven, shedStarted_chan]
  refine ⟨fun hc => ?_, fun hc => ?_⟩
  · rw [hc, if_pos rfl]
    exact ⟨rfl, by simp [Channel.drives, Channel.suspend]⟩
  · rw [hc, if_neg (by simp)]
    refine ⟨rfl, ?_⟩
    cases hd : s.driven.get c
    · rfl
    · exact (Channel.drives_iff _ _).2 (h.1 c hd)

theorem placeShed_front (q : List TxItem) :
    ((∃ i ∈ q, i.body.isShed = true) → placeShed q = q) ∧
    ((∀ i ∈ q, i.body.isShed = false) →
      (∀ i rest, q = i :: rest → i.body.isSync = true → placeShed q = i :: ⟨.shed, 0, false⟩ :: rest) ∧
      ((∀ i rest, q = i :: rest → i.body.isSync = false) → placeShed q = ⟨.shed, 0, false⟩ :: q)) := by
  have absent : (∀ i ∈ q, i.body.isShed = false) → present TxBody.isShed q = false := fun h => by
    simpa [present] using h
  refine ⟨fun h => if_pos (by simpa [present] using h), fun h => ⟨fun i rest hq hs => ?_, fun hn => ?_⟩⟩
  · subst hq
    exact (if_neg (by simp [absent h])).trans (if_pos hs)
  · refine (if_neg (by simp [absent h])).trans ?_
    cases q with
    | nil => rfl
    | cons i rest => exact if_neg (by simp [hn i rest rfl])

/-- Where a cause of shedding finds the current command does not matter to it. -/
theorem shedCause_answered {a b : Bool} (cmd : HostCmd) (r : Response) :
    ((waiting cmd s).shedCause a b).answerWith r =
      answered cmd r (State.shedCause a b { s with host := { s.host with response := none } }) := by
  cases ho : s.station.online with
  | false => rw [shedCause_offline (by exact ho), shedCause_offline (by exact ho)]; rfl
  | true =>
    cases hs : s.shed.state with
    | idle => rw [shedCause_idle (by exact ho) (by exact hs), shedCause_idle (by exact ho) (by exact hs)]; rfl
    | shedding => rw [shedCause_shedding (by exact ho) (by exact hs), shedCause_shedding (by exact ho) (by exact hs)]; rfl

/-- Settles O29: a cause by the state of the station and of the shed, and SHED_NOW as one. -/
theorem shedCausesEnterOrRestartAShed : Obligations.ShedCausesEnterOrRestartAShed := by
  refine ⟨fun s a b => ⟨shedCause_offline, fun ho hs => shedCause_shedding ho hs, fun hsafe ho hs => ?_⟩, placeShed_front,
    fun s h => ?_⟩
  · exact ⟨s.shedStarted.channels, s.shedStarted.driven, shedCause_idle ho hs, shedStarted_outputs hsafe⟩
  · have shed := (exec_carryOut .shedNow h (by simp)).trans (congrArg Host.Outcome.next carryOut_shedNow)
    refine ⟨fun ho => shed.trans (congrArg Host.Outcome.next ?_), fun ho => shed.trans (congrArg Host.Outcome.next ?_)⟩
    · rw [if_neg (by simp [waiting, ho])]
      exact answer_waiting _ _ rfl
    · rw [if_pos (by exact ho)]
      exact shedCause_answered .shedNow _

/-! ### The end of a HOST job -/

/-- The end of a job for which nothing waits only frees the unit (R15). -/
theorem freeUnit_of_runs {j : Job} (h : Runs s j) {x : State} (hx : x.unit = s.unit) : x.freeUnit = unitDone x :=
  State.freeUnit_quiet x (by rw [hx]; exact h.2.1) (by rw [hx]; exact h.2.2.1) (by rw [hx]; exact h.2.2.2)

theorem finishHost_eq {tk : Taken} (h : Runs s (.host tk)) : s.finishHost =
    if (unitDone (s.hostChange tk)).host.held.isSome then (unitDone (s.hostChange tk)).releaseHeld
    else (unitDone (s.hostChange tk)).answerWith (s.hostResponse tk) := by
  have done : s.endJob (.host tk) = unitDone (s.hostChange tk) := freeUnit_of_runs h (hostChange_unit tk)
  rw [State.finishHost, h.1]
  dsimp only
  rw [State.endHost, done]

theorem withdraw_host (c : Chan) : (s.withdraw c).host = s.host := by
  unfold State.withdraw
  split <;> rfl

theorem sendRelease_host (c : Chan) : (s.sendRelease c).host = s.host := by
  unfold State.sendRelease
  split <;> rfl

/-- The changes of a HOST job leave the port (R166). -/
theorem hostChange_host (tk : Taken) : (s.hostChange tk).host = s.host := by
  unfold State.hostChange
  split
  · split <;> rfl
  · split
    · unfold State.acceptRelease
      split
      · rfl
      · split
        · rw [withdraw_host]
        · rfl
      · dsimp only
        rw [sendRelease_host]
        rfl
      · rfl
    · rfl
  · rfl

/-! ### O25 -/

theorem exec_command (cmd : HostCmd) : exec (commandStep cmd) s = .next (s.receive cmd) := by cases cmd <;> rfl

/-- A command is taken as it stands, whatever phase the transaction was in (R162, R169). -/
theorem take_phase (cmd : HostCmd) (p : HostPhase) :
    State.take cmd { s with host := { s.host with phase := p } } = s.take cmd := by
  cases cmd with
  | release c =>
    cases hp : s.setsPending (.release c) with
    | false => rw [take_release_unmarked hp, take_release_unmarked (by exact hp)]; rfl
    | true => rw [take_release_marked hp, take_release_marked (by exact hp)]; rfl
  | _ => rfl

theorem releaseHeld_idle (h : s.host.current = none ∨ s.host.response ≠ none) :
    s.releaseHeld = { s with host := { s.host with held := none } } := by
  unfold State.releaseHeld
  dsimp only
  split
  · next hc hr =>
    rcases h with h | h
    · exact absurd (hc.symm.trans h) (by simp)
    · exact absurd hr h
  · rfl

theorem releaseHeld_latched {cmd : HostCmd} {b : Bool} (hc : s.host.current = some ⟨cmd, b⟩) (hr : s.host.response = none) :
    .next s.releaseHeld =
      exec (commandStep cmd) { s with host := { s.host with held := none, phase := .command } } := by
  rw [exec_of_ready cmd ⟨rfl, rfl⟩]
  refine congrArg Host.Outcome.next ?_
  have taken := take_phase (s := { s with host := { s.host with held := none } }) cmd .command
  refine Eq.trans ?_ taken.symm
  unfold State.releaseHeld
  dsimp only
  rw [hc, hr]

/-- Settles O25: the port's three answers to a command, and the end of the held command's job. -/
theorem latchedCommandWaitsForTheHeldOne : Obligations.LatchedCommandWaitsForTheHeldOne := by
  refine ⟨fun s cmd hp => ?_, fun s cmd hp hh => ?_, fun s t held cmd b h hh hr => ?_⟩
  · rw [exec_command, State.receive, if_pos hp]
  · rw [exec_command, State.receive, if_neg (not_not.2 hp), if_pos (by simpa [Option.isSome_iff_ne_none] using hh)]
  · have host : (unitDone (s.hostChange held)).host = s.host := hostChange_host held
    have ended : s.finishHost = (unitDone (s.hostChange held)).releaseHeld := by
      rw [finishHost_eq h, host, hh]
      rfl
    refine ⟨fun hc ht => ?_, fun hc => ?_⟩
    · have hnext : Host.Outcome.next s.finishHost = .next t := ht
      rw [ended, releaseHeld_idle (by rw [host]; exact .inl hc)] at hnext
      cases hnext
      rw [host]
    · refine (congrArg Host.Outcome.next ended).trans ?_
      rw [releaseHeld_latched (by rw [host]; exact hc) (by rw [host]; exact hr), host]

/-! ### O26 -/

theorem respond_result (cmd : HostCmd) (k : RespKind) (f : List Byte) (r : ResultCode) : (cmd.respond k f r).result = r := by
  unfold HostCmd.respond
  split <;> rfl

/-- A refused command's answer is put into the state in which it waits (R171). -/
theorem answer_refused {cmd : HostCmd} {r : Response} {rc : ResultCode} {x : State} (hx : rc ≠ .ok → x = waiting cmd s)
    (h : (x.answer cmd rc).host.response = some r) (hr : r.result ≠ .ok) : x.answer cmd rc = answered cmd r s := by
  obtain rfl : cmd.respond .plain [] rc = r := by simpa [State.answer, State.answerWith] using h
  rw [respond_result] at hr
  rw [hx hr]
  rfl

theorem leaveCommand_refused (h : s.leaveCheck ≠ .ok) : s.leaveCommand = s := by
  unfold State.leaveCheck at h
  unfold State.leaveCommand
  split at h
  · next hs => rw [hs]
  · next hs => rw [hs]
  · exact absurd rfl h

/-- A command the port carries out changes nothing but the port where it refuses it (R171). -/
theorem carryOut_refused {cmd : HostCmd} {b : Bool} {r : Response}
    (h : (State.carryOut ⟨cmd, b⟩ (waiting cmd s)).host.response = some r) (hr : r.result ≠ .ok) :
    State.carryOut ⟨cmd, b⟩ (waiting cmd s) = answered cmd r s := by
  have formed : ∀ {x : State}, (x.answerWith Response.toForm).host.response = some r →
      x.answerWith Response.toForm = answered cmd r s := fun hx => by
    cases hx
    exact absurd rfl hr
  have waits : (waiting cmd s).host.response = some r → waiting cmd s = answered cmd r s := fun hx => by cases hx
  cases cmd with
  | nop => exact answer_refused (fun hn => absurd rfl hn) h hr
  | readStatus => exact formed h
  | readEvents => exact formed h
  | writeEventMask m1 m2 => exact answer_refused (fun hn => absurd rfl hn) h hr
  | readSetting i =>
    rw [carryOut_readSetting] at h ⊢
    split at h
    · exact answer_refused (fun _ => rfl) h hr
    · cases h
      exact absurd rfl hr
  | writeSetting i hi lo =>
    rw [carryOut_writeSetting] at h ⊢
    refine answer_refused (fun hn => ?_) h hr
    cases hc : (waiting (.writeSetting i hi lo) s).writeCheck i hi lo <;> first | rfl | exact absurd hc hn
  | join =>
    rw [carryOut_join] at h ⊢
    exact answer_refused (fun hn => if_neg hn) h hr
  | leave =>
    rw [carryOut_leave] at h ⊢
    exact answer_refused leaveCommand_refused h hr
  | request c m st l =>
    rw [carryOut_request] at h ⊢
    revert h
    split
    · exact waits
    · exact fun h => answer_refused (fun _ => rfl) h hr
  | release c =>
    rw [carryOut_release] at h ⊢
    revert h
    split
    · exact waits
    · exact fun h => answer_refused (fun _ => rfl) h hr
  | readChannel c =>
    rw [carryOut_readChannel] at h ⊢
    revert h
    split
    · exact fun h => answer_refused (fun _ => rfl) h hr
    · exact formed
  | readEntry i =>
    rw [carryOut_readEntry] at h ⊢
    revert h
    split
    · exact fun h => answer_refused (fun _ => rfl) h hr
    · exact waits
  | readPeer i =>
    rw [carryOut_readPeer] at h ⊢
    revert h
    split
    · exact fun h => answer_refused (fun _ => rfl) h hr
    · exact waits
  | readMap f c =>
    rw [carryOut_readMap] at h ⊢
    revert h
    split
    · exact waits
    · exact fun h => answer_refused (fun _ => rfl) h hr
  | shedNow =>
    rw [carryOut_shedNow] at h ⊢
    revert h
    split
    · exact fun h => answer_refused (fun hn => absurd rfl hn) h hr
    · exact fun h => answer_refused (fun _ => rfl) h hr

theorem hostChange_refused {tk : Taken} (h : (s.hostResponse tk).result ≠ .ok) : s.hostChange tk = s := by
  obtain ⟨cmd, b⟩ := tk
  cases cmd with
  | request c m st l => exact if_neg fun hk => h ((respond_result _ _ _ _).trans hk)
  | release c => exact if_neg fun hk => h ((respond_result _ _ _ _).trans hk.1)
  | _ => rfl

/-- Settles O26: at the port by the command, in a HOST job by its one condition. -/
theorem refusedCommandsChangeNothing : Obligations.RefusedCommandsChangeNothing := by
  refine ⟨fun s t cmd r h ht hresp hr => ?_, fun s t tk r h hh ht hresp hr => ?_⟩
  · rw [exec_of_ready cmd h] at ht
    cases ht
    by_cases hc : ∃ c, cmd = .release c ∧ s.setsPending cmd = true
    · obtain ⟨c, rfl, hp⟩ := hc
      rw [take_release_marked hp, carryOut_release,
        if_pos (by exact StationState.running_of_online (setsPending_iff.1 hp).2.1)] at hresp
      cases hresp
    · have taken : s.take cmd = State.carryOut ⟨cmd, false⟩ (waiting cmd s) := by
        by_cases hrel : ∃ c, cmd = .release c
        · obtain ⟨c, rfl⟩ := hrel
          exact take_release_unmarked (Bool.eq_false_iff.2 fun hp => hc ⟨c, rfl, hp⟩)
        · rw [State.take_unmarked s cmd fun c hcmd => hrel ⟨c, hcmd⟩]
          rfl
      rw [taken] at hresp ⊢
      exact carryOut_refused hresp hr
  · have ended : s.finishHost = (unitDone (s.hostChange tk)).answerWith (s.hostResponse tk) := by
      rw [finishHost_eq h, if_neg (by rw [show (unitDone (s.hostChange tk)).host = s.host from hostChange_host tk, hh]; simp)]
    have hnext : Host.Outcome.next s.finishHost = .next t := ht
    rw [ended] at hnext
    cases hnext
    cases hresp
    rw [hostChange_refused hr]
    rfl

end Sys2Proof.Machine
end

section
/-! PROOFS. The bytes of a transaction on the serial clock (R162 to R166). -/

namespace Sys2Proof.Machine

open Sys2Proof.Safety

variable {s t : State}

/-! ### Bytes in -/

theorem step_clock (h : s.pending = []) : step s = s.clock := by rw [step, h]

theorem byteBits_getElem (b : Byte) {k : Nat} (h : k < 8) : (byteBits b)[k]? = some (b.getLsbD (7 - k)) :=
  getElem?_natBits 8 b.toNat k h

/-- The bytes of a command that have come in so far (R162). -/
def ComingIn (s : State) (got : List Byte) : Prop :=
  (s.host.phase = .command ∧ got = []) ∨ s.host.phase = .parameters got

theorem coming_of {got : List Byte} (h : ComingIn s got) : s.host.phase.coming = some got := by
  rcases h with ⟨hp, rfl⟩ | hp <;> rw [hp] <;> rfl

/-- Eight bits at SDI are the next byte of the command (R163). -/
theorem step_byteIn {got : List Byte} {b : Byte} {rest : List Bool} (hq : s.pending = []) (hd : s.host.sdoDriven = true)
    (hc : ComingIn s got) (hs : s.serial.sdi = byteBits b ++ rest) :
    (decodeTransaction (got ++ [b]) = none → step s = .next { s with
      host := { s.host with phase := .parameters (got ++ [b]) }
      serial := { s.serial with sdi := rest } }) ∧
    (∀ i, decodeTransaction (got ++ [b]) = some i → step s = exec i { s with
      host := { s.host with phase := .command }
      serial := { s.serial with sdi := rest } }) := by
  have first : s.serial.sdi.take 8 = byteBits b := by rw [hs]; exact List.take_left' rfl
  have after : s.serial.sdi.drop 8 = rest := by rw [hs]; exact List.drop_left' rfl
  have clock : step s = s.byteIn (got ++ [b]) := by
    rw [step_clock hq, State.clock_in s got hd (coming_of hc) (by rw [hs, List.length_append]; exact Nat.le_add_right 8 _),
      first, bitsByte_byteBits]
  refine ⟨fun hn => ?_, fun i hi => ?_⟩
  · rw [clock, State.byteIn, hn, after]
  · rw [clock, State.byteIn, hi, after]

theorem step_noByte {got : List Byte} (hq : s.pending = []) (hd : s.host.sdoDriven = true) (hc : ComingIn s got)
    (hs : s.serial.sdi.length < 8) : step s = .next s := by
  rw [step_clock hq, State.clock, if_pos hd, coming_of hc]
  exact if_pos hs

theorem sdoBits_coming {got : List Byte} (hd : s.host.sdoDriven = true) (hc : ComingIn s got) :
    s.sdoBits = some (List.replicate 8 false) := by
  have low : s.sdoByte = some 0 := by
    rw [State.sdoByte, hd]
    rcases hc with ⟨hp, -⟩ | hp <;> rw [hp] <;> rfl
  rw [State.sdoBits, low]
  exact congrArg some (by decide : byteBits 0 = List.replicate 8 false)

/-- The bytes of a command that stand at SDI come in one by one, and the command is taken at the last (R163). -/
theorem clocked_bytes {i : Instr} {rest : List Bool} : ∀ (more got : List Byte) (s : State), s.pending = [] →
    s.host.sdoDriven = true → ComingIn s got → s.serial.sdi = more.flatMap byteBits ++ rest → more ≠ [] →
    decodeTransaction (got ++ more) = some i →
    (∀ k, k < (got ++ more).length → decodeTransaction ((got ++ more).take k) = none) →
      ∃ t : State, clocked (more.length - 1) s = some t ∧ step t = exec i { s with
        host := { s.host with phase := .command }
        serial := { s.serial with sdi := rest } } := by
  intro more
  induction more with
  | nil => exact fun _ _ _ _ _ _ h => absurd rfl h
  | cons b more ih =>
    intro got s hq hd hc hs _ hi hshort
    have front : s.serial.sdi = byteBits b ++ (more.flatMap byteBits ++ rest) := by
      rw [hs, List.flatMap_cons, List.append_assoc]
    have taken := step_byteIn hq hd hc front
    cases more with
    | nil => exact ⟨s, rfl, taken.2 i hi⟩
    | cons c more =>
      have split : got ++ b :: c :: more = (got ++ [b]) ++ c :: more := by simp
      have partly : decodeTransaction (got ++ [b]) = none := by
        have short := hshort (got ++ [b]).length (by simp)
        rwa [split, List.take_left] at short
      rw [split] at hi hshort
      obtain ⟨t, ht, hstep⟩ := ih (got ++ [b]) { s with
        host := { s.host with phase := .parameters (got ++ [b]) }
        serial := { s.serial with sdi := (c :: more).flatMap byteBits ++ rest } } hq hd (.inr rfl) rfl (by simp) hi hshort
      refine ⟨t, ?_, hstep⟩
      simp only [List.length_cons, Nat.add_sub_cancel] at ht ⊢
      rw [clocked, taken.1 partly]
      exact ht

/-! ### O23 -/

/-- Settles O23: a byte in, no byte in, and a command whose bytes all stand at SDI. -/
theorem commandBytesComeInOnTheSerialClock : Obligations.CommandBytesComeInOnTheSerialClock := by
  refine ⟨fun b k => ⟨rfl, byteBits_getElem b⟩, fun s got hq hd hc => ⟨fun b rest hs => step_byteIn hq hd hc hs,
    step_noByte hq hd hc, sdoBits_coming hd hc⟩, fun s i bytes rest hq hd hp hw hb hs => ?_⟩
  obtain ⟨hi, hshort⟩ := bytes_spell_step i hw bytes hb
  have some : bytes ≠ [] := by
    rintro rfl
    cases hi
  obtain ⟨t, ht, hstep⟩ := clocked_bytes bytes [] s hq hd (.inl ⟨hp, rfl⟩) hs some hi hshort
  refine ⟨t, ht, hstep.trans ?_⟩
  rw [← hp]

end Sys2Proof.Machine
end

section
/-! PROOFS. The bytes that go out on the serial clock (R163 to R166, R179). -/

namespace Sys2Proof.Machine

open Sys2Proof.Safety

variable {s t : State}

/-! ### The byte chosen -/

/-- Once the command is in, the serial clock chooses the next byte to go out (R165). -/
theorem step_choose (hq : s.pending = []) (hd : s.host.sdoDriven = true) (ho : s.serial.out = none)
    (hp : s.host.phase.coming = none) : step s = .next s.chooseByte := by
  rw [step_clock hq, State.clock_out s hd hp, ho]
  rfl

theorem coming_waiting (h : s.host.phase = .waiting) : s.host.phase.coming = none := by rw [h]; rfl

theorem coming_response (h : s.host.phase = .response) : s.host.phase.coming = none := by rw [h]; rfl

theorem coming_filler (h : s.host.phase = .trailing ∨ s.host.phase = .closed) : s.host.phase.coming = none := by
  rcases h with h | h <;> rw [h] <;> rfl

theorem chooseByte_busy (hp : s.host.phase = .waiting) (hr : s.host.response = none) :
    s.chooseByte = { s with serial := { s.serial with out := some 0xC3 } } := by rw [State.chooseByte, hp, hr]

theorem chooseByte_marker {r : Response} (hp : s.host.phase = .waiting) (hr : s.host.response = some r) :
    s.chooseByte = { s with
      host := { s.host with phase := .response, response := some (s.formed r) }
      serial := { s.serial with out := some 0x5A, sent := 1 } } := by
  rw [State.chooseByte, State.showMarker, hp, hr]

theorem chooseByte_response {r : Response} (hp : s.host.phase = .response) (hr : s.host.response = some r) :
    s.chooseByte = { s with serial := { s.serial with
      out := some (r.bytes.getD s.serial.sent 0x00), sent := s.serial.sent + 1 } } := by
  rw [State.chooseByte, hp, hr]

theorem chooseByte_filler (h : s.host.phase = .trailing ∨ s.host.phase = .closed) :
    s.chooseByte = { s with serial := { s.serial with out := some 0 } } := by
  rcases h with h | h <;> rw [State.chooseByte, h]

theorem Response.bytes_field {r : Response} {k : Nat} {field : Byte} (h : r.fields[k]? = some field) :
    r.bytes.getD (k + 1) 0x00 = field := by
  obtain ⟨hk, -⟩ := List.getElem?_eq_some_iff.mp h
  rw [Response.bytes, List.getD_cons_succ, List.getD_eq_getElem?_getD, List.getElem?_append_left hk, h]
  rfl

theorem Response.bytes_result (r : Response) : r.bytes.getD (r.fields.length + 1) 0x00 = r.result.byte := by
  rw [Response.bytes, List.getD_cons_succ, List.getD_eq_getElem?_getD, List.getElem?_concat_length]
  rfl

/-! ### The reads formed at the marker -/

/-- The fields of READ_STATUS, the counts of the tables or those that the running job keeps (R23, R175). -/
theorem statusBytes_eq : s.statusBytes =
    [s.station.byte, s.haltCause.byte, byteOf s.timer.frame, byteOf s.timer.slice] ++
      [byteOf s.reportedCounts.peers, byteOf s.reportedCounts.entries, byteOf s.reportedCounts.own] ++
      [byteOf s.txQueue.length, s.supply.state.byte, s.shed.state.byte] := rfl

theorem tableCounts_eq : s.tableCounts =
    ⟨s.peers.length, positions.countP fun p => (s.book.entry p).isSome,
      positions.countP fun p => (s.book.entry p).any fun e => e.owner == s.settings.stationNumber⟩ := by
  have any : ∀ o : Option Entry, (o.any fun _ => true) = o.isSome := by
    intro o
    cases o <;> rfl
  rw [State.tableCounts]
  simp only [Book.count, any]

theorem formed_status {r : Response} {b : Bool} (hr : r.kind = .unformed) (hc : s.host.current = some ⟨.readStatus, b⟩) :
    s.formed r = ⟨.plain, s.statusBytes, .ok⟩ := by rw [State.formed, hr, hc]; rfl

theorem formed_events {r : Response} {b : Bool} (hr : r.kind = .unformed) (hc : s.host.current = some ⟨.readEvents, b⟩) :
    s.formed r = ⟨.events s.events.flags 0, s.events.flagBytes, .ok⟩ := by rw [State.formed, hr, hc]; rfl

theorem formed_channel {r : Response} {b : Bool} {n : Byte} {c : Chan} (hn : n.toNat = c.val) (hr : r.kind = .unformed)
    (hc : s.host.current = some ⟨.readChannel n, b⟩) :
    s.formed r = ⟨.channel c false, channelBytes (s.chan c), .ok⟩ := by
  rw [State.formed, hr, hc]
  exact congrArg (fun d : Chan => (⟨.channel d false, channelBytes (s.chan d), .ok⟩ : Response)) (chanOf_val hn)

/-! ### The byte that ends -/

/-- The byte that goes out is shifted whole, and what came in with it is left out (R163, R165). -/
theorem step_ends {b : Byte} (hq : s.pending = []) (hd : s.host.sdoDriven = true) (ho : s.serial.out = some b)
    (hp : s.host.phase.coming = none) : step s = .next s.byteOutEnds := by
  rw [step_clock hq, State.clock_out s hd hp, ho]
  rfl

theorem sdoBits_out {b : Byte} (hd : s.host.sdoDriven = true) (ho : s.serial.out = some b)
    (hp : s.host.phase.coming = none) : s.sdoBits = some (byteBits b) := by
  unfold State.sdoBits State.sdoByte
  rw [hd]
  cases hq : s.host.phase with
  | command => rw [hq] at hp; cases hp
  | parameters got => rw [hq] at hp; cases hp
  | closed | waiting | response | trailing => exact congrArg (Option.map byteBits) ho

theorem byteOutEnds_plain (h : s.host.phase ≠ .response) :
    s.byteOutEnds = { s with serial := { s.serial with sdi := s.serial.sdi.drop 8, out := none } } := if_neg h

theorem byteOutEnds_response {k : Nat} (hp : s.host.phase = .response) (hk : s.serial.sent = k + 1) :
    s.byteOutEnds = State.responseByteEnds k
      { s with serial := { s.serial with sdi := s.serial.sdi.drop 8, out := none } } := by
  refine (if_pos hp).trans ?_
  rw [hk]
  rfl

/-- The end of byte `k` of a response has no effect of its own: it is no flag byte and no outcome byte that is still to
be reported (R72, R179). -/
def NoEffect (r : Response) (k : Nat) : Prop :=
  (∀ rep n, r.kind = .events rep n → ¬ (1 ≤ k ∧ k ≤ 2)) ∧ (∀ c, r.kind = .channel c false → k ≠ 5)

theorem outcomeByteEnds_reported {r : Response} {c : Chan} (hr : s.host.response = some r) (hk : r.kind = .channel c true) :
    s.outcomeByteEnds = s := by
  rcases r with ⟨kind, fields, code⟩
  cases hk
  rw [State.outcomeByteEnds, hr]

/-- A byte with no effect of its own ends phase RESPONSE where it is the result byte (R162). -/
theorem responseByteEnds_still {r : Response} {k : Nat} (hr : s.host.response = some r) (h : NoEffect r k) :
    s.responseByteEnds k =
      if r.fields.length < k then { s with host := { s.host with phase := .trailing } } else s := by
  obtain ⟨hflag, hout⟩ := h
  rw [State.responseByteEnds, hr]
  dsimp only
  cases hk : r.kind with
  | unformed | plain => rfl
  | events rep n =>
    dsimp only
    rw [if_neg (hflag rep n hk)]
  | channel c reported =>
    dsimp only
    cases reported with
    | false => rw [if_neg (hout c hk)]
    | true =>
      rw [outcomeByteEnds_reported hr hk, ite_self]

theorem responseByteEnds_flag {r : Response} {k : Nat} {rep : BitVec 16} {n : Nat} (hr : s.host.response = some r)
    (hk : r.kind = .events rep n) (h1 : 1 ≤ k) (h2 : k ≤ 2) (hl : k ≤ r.fields.length) :
    s.responseByteEnds k = s.flagByteEnds := by
  rw [State.responseByteEnds, hr]
  dsimp only
  rw [hk]
  dsimp only
  rw [if_neg (Nat.not_lt.2 hl), if_pos ⟨h1, h2⟩]

theorem responseByteEnds_outcome {r : Response} {c : Chan} (hr : s.host.response = some r)
    (hk : r.kind = .channel c false) (hl : 5 ≤ r.fields.length) :
    s.responseByteEnds 5 = s.outcomeByteEnds := by
  rw [State.responseByteEnds, hr]
  dsimp only
  rw [hk]
  dsimp only
  rw [if_neg (Nat.not_lt.2 hl), if_pos rfl]

theorem flagByteEnds_serial : s.flagByteEnds.serial = s.serial := by
  unfold State.flagByteEnds
  split
  · split <;> rfl
  · rfl

theorem outcomeByteEnds_serial : s.outcomeByteEnds.serial = s.serial := by
  unfold State.outcomeByteEnds
  split <;> rfl

/-- The row of a flag byte, named where that byte ends, is its effect (R179). -/
theorem shiftFlagByte_ends {r : Response} {rep : BitVec 16} {n : Nat} (hp : s.host.phase = .response)
    (hr : s.host.response = some r) (hk : r.kind = .events rep n) (hn : n < 2) (ho : s.serial.out = none)
    (hs : s.serial.sent = n + 2) : s.shiftFlagByte = s.flagByteEnds := by
  rcases r with ⟨kind, fields, code⟩
  cases hk
  have serial : ({ s.serial with out := none, sent := n + 2 } : SerialPort) = s.flagByteEnds.serial := by
    rw [flagByteEnds_serial, ← ho, ← hs]
  rw [State.shiftFlagByte, showMarker_of_response hp, hr]
  refine (if_pos hn).trans ?_
  rw [serial]

/-- The row of the outcome byte, named where that byte ends, is its effect (R72). -/
theorem shiftOutcomeByte_ends {r : Response} {c : Chan} (hp : s.host.phase = .response)
    (hr : s.host.response = some r) (hk : r.kind = .channel c false) (ho : s.serial.out = none)
    (hs : s.serial.sent = 6) : s.shiftOutcomeByte = s.outcomeByteEnds := by
  rcases r with ⟨kind, fields, code⟩
  cases hk
  have serial : ({ s.serial with out := none, sent := 6 } : SerialPort) = s.outcomeByteEnds.serial := by
    rw [outcomeByteEnds_serial, ← ho, ← hs]
  rw [State.shiftOutcomeByte, showMarker_of_response hp, hr]
  dsimp only
  rw [serial]

/-! ### O24 -/

/-- Settles O24: the byte chosen in each phase, and the byte that ends. -/
theorem responseBytesGoOutOnTheSerialClock : Obligations.ResponseBytesGoOutOnTheSerialClock := by
  refine ⟨fun s hq hd ho => ⟨fun hp hr => ?_, fun r hp hr => ?_, fun r k hp hr hk => ?_, fun hp => ?_⟩,
    fun s b hq hd ho done hdone => ⟨fun hp => ?_, fun r k hp hr hk => ?_⟩, fun s hd => ?_⟩
  · rw [step_choose hq hd ho (coming_waiting hp), chooseByte_busy hp hr]
  · refine ⟨s.formed r, (step_choose hq hd ho (coming_waiting hp)).trans (congrArg _ (chooseByte_marker hp hr)),
      State.formed_eq s r, fun hu b => ⟨fun hc => ?_, formed_events hu, fun n c hn => formed_channel hn hu⟩⟩
    rw [formed_status hu hc, statusBytes_eq, State.reportedCounts]
    cases s.unit.job with
    | some j => rfl
    | none =>
      dsimp only
      rw [tableCounts_eq]
  · rw [step_choose hq hd ho (coming_response hp), chooseByte_response hp hr, hk]
    refine ⟨fun field hf => ?_, fun hl => ?_⟩
    · rw [Response.bytes_field hf]
    · rw [hl, Response.bytes_result]
  · rw [step_choose hq hd ho (coming_filler hp), chooseByte_filler hp]
  · have coming : s.host.phase.coming = none := hp.elim coming_waiting coming_filler
    refine ⟨?_, sdoBits_out hd ho coming⟩
    rw [step_ends hq hd ho coming, hdone, byteOutEnds_plain (by rcases hp with hp | hp | hp <;> rw [hp] <;> decide)]
  · have ends : step s = .next (done.responseByteEnds k) := by
      rw [step_ends hq hd ho (coming_response hp), byteOutEnds_response hp hk, hdone]
    have same : done.host = s.host := by rw [hdone]
    have response : done.host.response = some r := by rw [same, hr]
    have phase : done.host.phase = .response := by rw [same, hp]
    have out : done.serial.out = none := by rw [hdone]
    have sent : done.serial.sent = k + 1 := by rw [hdone]; exact hk
    have inside : NoEffect r k → k ≤ r.fields.length → step s = .next done := fun hn hl => by
      rw [ends, responseByteEnds_still response hn, if_neg (Nat.not_lt.2 hl)]
    refine ⟨sdoBits_out hd ho (coming_response hp), fun hl he hc => ?_, fun hl hr => ?_, fun rep n hkind hl => ⟨?_, ?_⟩,
      fun c hkind hl => ⟨?_, ?_⟩, fun c hkind hl => ?_⟩
    · have quiet : NoEffect r k := ⟨fun rep n h => by have := he rep n h; omega, fun c h => by have := hc c h; omega⟩
      rw [ends, responseByteEnds_still response quiet, if_pos hl, same]
    · exact inside ⟨fun rep n h => (by rw [hr] at h; cases h), fun c h => (by rw [hr] at h; cases h)⟩ hl
    · exact fun hz => inside ⟨fun _ _ _ => by omega, fun _ h => (by rw [hkind] at h; cases h)⟩ (by omega)
    · intro hn hkn
      rw [ends, responseByteEnds_flag response hkind (by omega) (by omega) (by omega)]
      exact congrArg _ (shiftFlagByte_ends phase response hkind hn out (by omega)).symm
    · exact fun hk => inside ⟨fun _ _ h => (by rw [hkind] at h; cases h), fun _ _ => by omega⟩ (by omega)
    · intro hk5
      rw [ends, hk5, responseByteEnds_outcome response hkind (by omega)]
      exact congrArg _ (shiftOutcomeByte_ends phase response hkind out (by omega)).symm
    · exact inside ⟨fun _ _ h => (by rw [hkind] at h; cases h), fun _ h => (by rw [hkind] at h; cases h)⟩ hl
  · rw [State.sdoBits, State.sdoByte, hd]
    rfl

end Sys2Proof.Machine
end

section
/-! PROOFS. Positions and the fit tests (R1, R8, R28), and the grants of the arbiter (R15). -/

namespace Sys2Proof.Machine

open Sys2Proof.Safety

variable {s t : State} {b : Book}

/-! ### The fit tests -/

theorem fits_iff (tentative : Bool) (budget weight : Nat) (w : Window) :
    b.fits tentative budget weight w = true ↔
      ∀ i : Fin 64, w.start ≤ i.val → i.val < w.start + w.len → (b.map.get i).tested tentative + weight ≤ budget := by
  simp [Book.fits, slices, Window.covers, imp_iff_not_or, or_assoc]

/-- The test at evaluation takes the committed sums alone (R8). -/
theorem fits_committed {budget weight : Nat} {w : Window} : b.fits false budget weight w = true ↔
    ∀ i : Fin 64, w.start ≤ i.val → i.val < w.start + w.len → (b.map.get i).committed + weight ≤ budget :=
  fits_iff false budget weight w

/-- The test at placement takes the tentative sums too (R28). -/
theorem fits_placing {budget weight : Nat} {w : Window} : b.fits true budget weight w = true ↔
    ∀ i : Fin 64, w.start ≤ i.val → i.val < w.start + w.len →
      (b.map.get i).committed + (b.map.get i).tentative + weight ≤ budget :=
  fits_iff true budget weight w

/-- Settles O31: the lowest free position, the entries that stay, and the two tests. -/
theorem entriesTakeTheLowestFreePosition : Obligations.EntriesTakeTheLowestFreePosition := fun b e =>
  ⟨Book.add_eq_none, fun _ => Book.add_eq_some.1, fun p q => Book.put_entry b p q e, fun p q => Book.drop_entry b p q,
    fun p q st => Book.restate_entry b p q st, fun _ _ => Book.dropOwned_entry, fun _ _ _ => Book.find_eq_some,
    fun _ _ _ => ⟨fits_committed, fits_placing⟩⟩

/-! ### The arbiter -/

theorem exec_evaluate_grant : exec (.evaluate .grant) s = .next s.grantEvaluate := rfl

theorem exec_sweep_grant : exec (.sweep .grant) s = .next s.grantSweep := rfl

theorem exec_host_grant : exec (.hostJob .grant) s = .next s.grantHost := rfl

theorem exec_placement_grant : exec (.placement .grant) s = .next s.grantPlacement := rfl

theorem unitFree_iff : s.unitFree = true ↔ s.unit.job = none := Option.isNone_iff_eq_none

theorem hostWanted_iff : s.hostWanted = true ↔ s.host.waitingCommand ≠ none := Option.isSome_iff_ne_none

/-- The lowest PLACING channel is the one that is placed (R25). -/
theorem placingChannel_eq_some {c : Chan} : s.placingChannel = some c ↔
    (s.chan c).state = .placing ∧ ∀ d, d < c → (s.chan d).state ≠ .placing := by
  simp [State.placingChannel, find?_finRange_eq_some]

theorem grantEvaluate_busy (h : s.unit.job ≠ none) : s.grantEvaluate = s := by
  unfold State.grantEvaluate
  split
  · rfl
  · exact if_neg (by rwa [unitFree_iff])

theorem grantSweep_not (h : s.unit.job ≠ none ∨ s.rxQueue ≠ []) : s.grantSweep = s := by
  refine if_neg ?_
  rintro ⟨hf, hq, -⟩
  exact h.elim (fun hj => hj (unitFree_iff.1 hf)) fun hr => hr hq

theorem grantHost_not (h : s.unit.job ≠ none ∨ s.rxQueue ≠ [] ∨ 0 < s.timer.sweepPending) : s.grantHost = s := by
  refine if_neg ?_
  rintro ⟨hf, hq, hp⟩
  rcases h with hj | hr | hs
  · exact hj (unitFree_iff.1 hf)
  · exact hr hq
  · omega

theorem grantPlacement_not (h : s.unit.job ≠ none ∨ s.rxQueue ≠ [] ∨ 0 < s.timer.sweepPending ∨
    s.host.waitingCommand ≠ none ∨ s.station ≠ .joined) : s.grantPlacement = s := by
  refine if_neg ?_
  rintro ⟨hf, hq, hp, hw, hj⟩
  rcases h with hb | hr | hs | hh | hn
  · exact hb (unitFree_iff.1 hf)
  · exact hr hq
  · omega
  · rw [hostWanted_iff.2 hh] at hw
    cases hw
  · exact hn hj

/-- Settles O33: the first kind wanted in order, and no grant out of turn. -/
theorem arbiterGrantsInOrder : Obligations.ArbiterGrantsInOrder := by
  refine ⟨fun s hj => ⟨fun item rest hq => ?_, fun hq hs => ?_, fun tk hq hs hw => ?_,
    fun c hq hs hw hst hc hd => ?_⟩, fun s => ⟨fun hj => ?_, fun hq => ?_, fun hs => ?_, fun hw => ?_, fun hst => ?_⟩⟩
  · rw [exec_evaluate_grant, State.grantEvaluate, hq]
    exact congrArg _ (if_pos (unitFree_iff.2 hj))
  · exact congrArg _ (if_pos ⟨unitFree_iff.2 hj, hq, hs⟩)
  · refine congrArg _ ((if_pos ⟨unitFree_iff.2 hj, hq, hs⟩).trans ?_)
    rw [hw]
    rfl
  · have unwanted : (!s.hostWanted) = true := by rw [State.hostWanted, hw]; rfl
    refine congrArg _ ((if_pos ⟨unitFree_iff.2 hj, hq, hs, unwanted, hst⟩).trans ?_)
    rw [placingChannel_eq_some.2 ⟨hc, hd⟩]
    rfl
  · exact ⟨congrArg _ (grantEvaluate_busy hj), congrArg _ (grantSweep_not (.inl hj)),
      congrArg _ (grantHost_not (.inl hj)), congrArg _ (grantPlacement_not (.inl hj))⟩
  · exact ⟨congrArg _ (grantSweep_not (.inr hq)), congrArg _ (grantHost_not (.inr (.inl hq))),
      congrArg _ (grantPlacement_not (.inr (.inl hq)))⟩
  · exact ⟨congrArg _ (grantHost_not (.inr (.inr hs))), congrArg _ (grantPlacement_not (.inr (.inr (.inl hs))))⟩
  · exact congrArg _ (grantPlacement_not (.inr (.inr (.inr (.inl hw)))))
  · exact congrArg _ (grantPlacement_not (.inr (.inr (.inr (.inr hst)))))

end Sys2Proof.Machine
end

section
/-! PROOFS. The HOST jobs by their commands (R22, R55 to R60, R117). -/

namespace Sys2Proof.Machine

open Sys2Proof.Safety

variable {s t : State}

/-! ### The end of a HOST job with no held command -/

/-- A HOST job with no held command and nothing waiting makes its changes and gives its response (R166). -/
theorem exec_host_finish {tk : Taken} (h : Runs s (.host tk)) (hh : s.host.held = none) :
    exec (.hostJob .finish) s = .next (jobAnswered (s.hostResponse tk) (s.hostChange tk)) := by
  refine congrArg Host.Outcome.next ((finishHost_eq h).trans (if_neg ?_))
  rw [show (unitDone (s.hostChange tk)).host = s.host from hostChange_host tk, hh]
  simp

/-! ### O35 -/

theorem hostChange_request (c m st l : Byte) (b : Bool) : s.hostChange ⟨.request c m st l, b⟩ =
    if s.requestCheck c m st l = .ok then s.acceptRequest (chanOf c.toNat) (modeOf m) st.toNat l.toNat else s := rfl

theorem hostResponse_request (c m st l : Byte) (b : Bool) :
    s.hostResponse ⟨.request c m st l, b⟩ = ⟨.plain, [], s.requestCheck c m st l⟩ := by
  have : ∀ r, (HostCmd.request c m st l).respond .plain [] r = ⟨.plain, [], r⟩ := fun r => by cases r <;> rfl
  exact this _

theorem acceptRequest_eq (c : Chan) (mode : ReqMode) (start len : Nat) : s.acceptRequest c mode start len =
    s.setChan c { s.chan c with
      state := .placing, mode := mode, reqStart := start, reqLen := len, attempts := 0
      releasePending := false, reRequest := false
      outcome := .none, outcomeWindow := none, fresh := false } := rfl

/-- Settles O35: each check by its condition, and the accepted request. -/
theorem requestJobByItsChecks : Obligations.RequestJobByItsChecks := by
  intro s c m st l b h hh
  have refused : ∀ r, s.requestCheck c m st l = r → r ≠ .ok →
      exec (.hostJob .finish) s = .next (jobAnswered ⟨.plain, [], r⟩ s) := fun r hr hn => by
    rw [exec_host_finish h hh, hostResponse_request, hostChange_request, hr, if_neg hn]
  refine ⟨fun hb => refused _ (requestCheck_bad hb) (by decide), fun ch hc hb => ?_⟩
  have check := requestCheck_good (s := s) hb
  rw [chanOf_val hc] at check
  refine ⟨fun hw => ?_, fun hw ho => ?_, fun hw ho hst => ?_, fun hw ho hst => ?_⟩
  · exact refused _ (by rw [check, if_pos hw]) (by decide)
  · exact refused _ (by rw [check, if_neg hw, ho]; rfl) (by decide)
  · exact refused _ (by rw [check, if_neg hw, ho, if_pos hst]; rfl) (by decide)
  · have ok : s.requestCheck c m st l = .ok := by rw [check, if_neg hw, ho, if_neg (not_not.2 hst)]; rfl
    rw [exec_host_finish h hh, hostResponse_request, hostChange_request, ok, if_pos rfl, acceptRequest_eq, chanOf_val hc]
    rfl

/-! ### O36 -/

theorem hostChange_release (c : Byte) (b : Bool) : s.hostChange ⟨.release c, b⟩ =
    if s.releaseCheck c b = .ok ∧ !b then s.acceptRelease (chanOf c.toNat) else s := rfl

theorem hostResponse_release (c : Byte) (b : Bool) :
    s.hostResponse ⟨.release c, b⟩ = ⟨.plain, [], s.releaseCheck c b⟩ := by
  have : ∀ r, (HostCmd.release c).respond .plain [] r = ⟨.plain, [], r⟩ := fun r => by cases r <;> rfl
  exact this _

theorem not_seven_lt {c : Byte} {ch : Chan} (hc : c.toNat = ch.val) : ¬ 7 < c.toNat := by omega

theorem releaseCheck_online {c : Byte} {ch : Chan} (hc : c.toNat = ch.val) (ho : s.station.online = true) :
    s.releaseCheck c false =
      if (s.chan ch).state = .idle then .notHeld
      else if (s.chan ch).state = .releasing ∨ ((s.chan ch).state = .claiming ∧ (s.chan ch).releasePending) then
        .inProgress
      else .ok := by
  rw [State.releaseCheck, if_neg (not_seven_lt hc), ho, chanOf_val hc]
  rfl

theorem claimWaits_iff {c : Chan} {q : List TxItem} :
    claimWaits c q = true ↔ ∃ i ∈ q, i.body.isClaimOf c = true ∧ i.inAttempt = false := by simp [claimWaits]

theorem acceptRelease_placing {c : Chan} (h : (s.chan c).state = .placing) :
    s.acceptRelease c = s.endChannel c .withdrawn := by rw [State.acceptRelease, h]

theorem acceptRelease_waits {c : Chan} (h : (s.chan c).state = .claiming) (hw : claimWaits c s.txQueue = true) :
    s.acceptRelease c = State.endChannel c .withdrawn { s with
      txQueue := withdrawItems (TxBody.isClaimOf c) s.txQueue
      book := s.book.dropKey s.settings.stationNumber c } := by
  rw [State.acceptRelease, h]
  exact (if_pos hw).trans (if_pos h)

theorem acceptRelease_flies {c : Chan} (h : (s.chan c).state = .claiming) (hw : claimWaits c s.txQueue = false) :
    s.acceptRelease c = s.setChan c { s.chan c with releasePending := true } := by
  rw [State.acceptRelease, h]
  exact if_neg (by rw [hw]; decide)

theorem acceptRelease_held {c : Chan} (h : (s.chan c).state = .held) :
    s.acceptRelease c = s.givenBack c (s.chan c).reRequest := by rw [State.acceptRelease, h]; rfl

/-- A channel that gives its window back leaves the other outputs as they were (R60, R66, R69). -/
theorem givenBack_safe {c : Chan} {again : Bool} (h : OutputsSafe s) (ho : s.station.online = true) :
    s.givenBack c again = { s with
      book := s.book.restateKey s.settings.stationNumber c .releasing
      channels := s.channels.set c { s.chan c with state := .releasing, live := false, reRequest := again }
      driven := s.driven.set c false
      txQueue := placeTail (.release c) s.txQueue } := by
  have driven : (s.givenBack c again).driven = s.driven.set c false := vector_ext_get fun d => by
    rw [givenBack_driven, givenBack_chan c d again ho, get_set]
    split
    · exact Bool.and_false _
    · rw [Bool.and_eq_left_iff_imp]
      exact fun hd => (Channel.drives_iff _ _).2 (h.1 d hd)
  rw [givenBack_eq c again ho, driven]

/-- Settles O36: each check by its condition, and the accepted release by the channel's state. -/
theorem releaseJobByTheChannelState : Obligations.ReleaseJobByTheChannelState := by
  intro s c b h hh
  have unchanged : ∀ r, s.releaseCheck c b = r → (r ≠ .ok ∨ b = true) →
      exec (.hostJob .finish) s = .next (jobAnswered ⟨.plain, [], r⟩ s) := fun r hr hn => by
    rw [exec_host_finish h hh, hostResponse_release, hostChange_release, hr, if_neg]
    rintro ⟨hok, hb⟩
    rcases hn with hn | rfl
    · exact hn hok
    · cases hb
  refine ⟨fun hc => unchanged _ (if_pos hc) (.inl (by decide)), fun ch hc => ⟨fun hb => ?_, fun hb ho => ?_,
    fun hb ho => ?_⟩⟩
  · subst hb
    exact unchanged _ (if_neg (not_seven_lt hc)) (.inr rfl)
  · subst hb
    exact unchanged _ (by rw [releaseCheck_offline ho, if_neg (not_seven_lt hc)]; rfl) (.inl (by decide))
  subst hb
  have check := releaseCheck_online (s := s) hc ho
  have accepted : s.releaseCheck c false = .ok → exec (.hostJob .finish) s =
      .next (jobAnswered ⟨.plain, [], .ok⟩ (s.acceptRelease ch)) := fun hok => by
    rw [exec_host_finish h hh, hostResponse_release, hostChange_release, hok, chanOf_val hc]
    rfl
  refine ⟨fun hst => ?_, fun hst => ?_, fun hst => ?_, fun hst hp hq => ?_, fun hst hp hq => ?_, fun hsafe hst => ?_⟩
  · exact unchanged _ (by rw [check, if_pos hst]) (.inl (by decide))
  · refine unchanged _ ?_ (.inl (by decide))
    rw [check, if_neg (by rcases hst with hst | ⟨hst, -⟩ <;> rw [hst] <;> decide), if_pos hst]
  · rw [accepted (by rw [check, hst]; rfl), acceptRelease_placing hst]
    rfl
  · rw [accepted (by rw [check, hst, hp]; rfl), acceptRelease_waits hst (claimWaits_iff.2 hq)]
    rfl
  · have flying : claimWaits ch s.txQueue = false := by
      rw [Bool.eq_false_iff, Ne, claimWaits_iff]
      rintro ⟨i, hi, hclaim, hw⟩
      rw [hq i hi hclaim] at hw
      cases hw
    rw [accepted (by rw [check, hst, hp]; rfl), acceptRelease_flies hst flying]
  · rw [accepted (by rw [check, hst]; rfl), acceptRelease_held hst, givenBack_safe hsafe ho]
    rfl

/-! ### O37 -/

/-- A table read reports what the tables hold and changes nothing but the port (R22, R117). -/
theorem exec_host_read {cmd : HostCmd} {b : Bool} {r : Response} (h : Runs s (.host ⟨cmd, b⟩)) (hh : s.host.held = none)
    (hc : s.hostChange ⟨cmd, b⟩ = s) (hr : s.hostResponse ⟨cmd, b⟩ = r) :
    exec (.hostJob .finish) s = .next (jobAnswered r s) := by rw [exec_host_finish h hh, hc, hr]

theorem entryAt_val {b : Book} {i : Nat} {p : Fin 96} (h : i = p.val) : b.entryAt i = b.entry p := by
  subst h
  exact dif_pos p.isLt

/-- The slices that a READ_MAP names, in ascending order, are those from its first (R22). -/
theorem slices_filter (first count : Nat) :
    slices.filter (fun i => first ≤ i.val && i.val < first + count) = (slices.drop first).take count := by
  have len : slices.length = 64 := List.length_finRange
  have split : slices = slices.take first ++ ((slices.drop first).take count ++ (slices.drop first).drop count) := by
    rw [List.take_append_drop, List.take_append_drop]
  have value : ∀ k (hk : k < slices.length), (slices[k]'hk).val = k := fun k hk => by simp [slices]
  conv_lhs => rw [split]
  rw [List.filter_append, List.filter_append, List.filter_eq_nil_iff.2, List.filter_eq_self.2, List.filter_eq_nil_iff.2,
    List.nil_append, List.append_nil]
  · intro i hi
    obtain ⟨k, hk, rfl⟩ := List.mem_iff_getElem.1 hi
    simp only [List.getElem_drop, value, Bool.and_eq_true, decide_eq_true_eq]
    omega
  · intro i hi
    obtain ⟨k, hk, rfl⟩ := List.mem_iff_getElem.1 hi
    have : k < count := by simp at hk; omega
    simp only [List.getElem_take, List.getElem_drop, value, Bool.and_eq_true, decide_eq_true_eq]
    omega
  · intro i hi
    obtain ⟨k, hk, rfl⟩ := List.mem_iff_getElem.1 hi
    have : k < first := by simp at hk; omega
    simp only [List.getElem_take, value, Bool.and_eq_true, decide_eq_true_eq]
    omega

/-- Blocks of one length laid end to end are found again by their places. -/
theorem flatMap_block {α β : Type} {g : α → List β} {n : Nat} (hg : ∀ a, (g a).length = n) :
    ∀ (l : List α) (k : Nat) (a : α), l[k]? = some a → ((l.flatMap g).drop (n * k)).take n = g a := by
  intro l
  induction l with
  | nil =>
    intro k a h
    cases h
  | cons x l ih =>
    intro k a h
    cases k with
    | zero =>
      cases h
      rw [Nat.mul_zero, List.drop_zero, List.flatMap_cons, List.take_left' (hg x)]
    | succ k =>
      rw [Nat.mul_succ, Nat.add_comm, ← List.drop_drop, List.flatMap_cons, List.drop_left' (hg x)]
      exact ih k a h

theorem length_sumsBytes (m : Sums) : (sumsBytes m).length = 4 := rfl

/-- The bytes of a READ_MAP: four for each slice, in ascending order (R22, R183). -/
theorem mapBytes_eq (b : Book) (first count : Nat) : b.mapBytes first count =
    ((slices.drop first).take count).flatMap fun i => sumsBytes (b.map.get i) := by rw [Book.mapBytes, slices_filter]

theorem length_mapBytes {b : Book} {first count : Nat} (h : first + count ≤ 64) :
    (b.mapBytes first count).length = 4 * count := by
  have len : slices.length = 64 := List.length_finRange
  rw [mapBytes_eq, List.length_flatMap]
  simp only [length_sumsBytes, List.map_const', List.sum_replicate, List.length_take, List.length_drop, len, smul_eq_mul]
  omega

theorem mapBytes_slice {b : Book} {first count k : Nat} {i : Fin 64} (hk : k < count)
    (hi : i.val = first + k) : ((b.mapBytes first count).drop (4 * k)).take 4 = sumsBytes (b.map.get i) := by
  rw [mapBytes_eq]
  refine flatMap_block (g := fun i => sumsBytes (b.map.get i)) (fun i => length_sumsBytes _) _ k i ?_
  rw [List.getElem?_take_of_lt hk, List.getElem?_drop, ← hi, List.getElem?_eq_some_iff]
  exact ⟨by simp [slices], by simp [slices]⟩

/-- Settles O37: the entry, the peer and the slices reported. -/
theorem tableReadJobsReportASnapshot : Obligations.TableReadJobsReportASnapshot := by
  refine fun s b hh => ⟨fun i p h hp => exec_host_read h hh rfl ?_, fun i h => exec_host_read h hh rfl ?_,
    fun f n h hfn => ⟨s.book.mapBytes f.toNat n.toNat, exec_host_read h hh rfl rfl, length_mapBytes hfn,
      fun k i hk hi => (mapBytes_slice hk hi).trans rfl⟩⟩
  · change HostCmd.respond _ _ (entryBytes (s.book.entryAt i.toNat)) .ok = _
    rw [entryAt_val hp]
    cases s.book.entry p <;> rfl
  · change HostCmd.respond _ _ (s.peerReport i.toNat) .ok = _
    rw [State.peerReport]
    cases s.peers[i.toNat]? with
    | none => rfl
    | some q => cases hb : q.budget <;> simp only [peerBytes, hb] <;> rfl

end Sys2Proof.Machine
end

section
/-! PROOFS. Samples, the Frame Timer's events and the counts that run out (R40 to R43, R90, R140, R150 to R158). -/

namespace Sys2Proof.Machine

open Sys2Proof.Safety

variable {s t : State}

/-! ### O48 -/

theorem qualifies_iff {threshold sns : Nat} {supply : SupplyState} : qualifies threshold sns supply = true ↔
    (supply = .normal ∧ sns < 600 + 25 * threshold) ∨ (supply = .low ∧ 600 + 25 * (threshold + 1) ≤ sns) := by
  cases supply with
  | normal =>
    have below : qualifies threshold sns .normal = true ↔ sns < tripLevel threshold := decide_eq_true_iff
    simpa [tripLevel] using below
  | low =>
    have level : releaseLevel threshold = 600 + 25 * (threshold + 1) := by
      rw [releaseLevel, tripLevel]
      omega
    simp [qualifies, level, decide_eq_true_eq]

/-- Settles O48: a plain sample, the first qualifying one, and the second in each supply state. -/
theorem samplesMoveTheSupplyState : Obligations.SamplesMoveTheSupplyState := by
  intro s mV q hq
  have test : qualifies s.settings.supplyThreshold mV s.supply.state = true ↔ q := qualifies_iff.trans hq.symm
  refine ⟨fun h => ?_, fun h hz => ?_, fun h hn hs => ?_, fun h hn hs => ?_⟩
  · rw [State.sample, if_neg (by rwa [test])]
  · rw [State.sample, if_pos (test.2 h), if_pos hz]
  · rw [State.sample, if_pos (test.2 h), if_neg hn, hs]
  · rw [State.sample, if_pos (test.2 h), if_neg hn, hs]
    dsimp only
    split <;> rfl

/-! ### O49 -/

theorem offerSync_hold (hh : s.timer.hold = true) (ho : s.station.online = true) : s.offerSync =
    { s with txQueue := placeSync ((s.timer.frame + 1) % 256) s.txQueue } := if_pos ⟨hh, ho⟩

/-- Settles O49: the end of a slice, of slice 63 and of a hold tick, and the free-running sampler. -/
theorem frameTimerEventsAndTheirSamples : Obligations.FrameTimerEventsAndTheirSamples := by
  rintro s u mV rfl
  obtain ⟨station, timer⟩ := sample_frame (s := s) mV
  refine ⟨fun hr hh hs => ?_, fun hr hh hs => ?_, fun hr hh => ?_, fun hr => ?_⟩
  · refine ⟨_, congrArg Host.Outcome.next (if_pos ⟨hr, by simp [hh], hs⟩), fun c => ?_⟩
    exact (iff_of_eq (congrArg (· = true) (get_ofFn _ c))).trans (Channel.drives_iff _ _)
  · have ends : s.expireFrame mV =
        if (s.sample mV).station.online then (s.sample mV).beginHold else (s.sample mV).ownFrame :=
      if_pos ⟨hr, by simp [hh], by omega⟩
    refine ⟨fun ho => congrArg Host.Outcome.next ?_, fun ho => congrArg Host.Outcome.next ?_⟩
    · rw [ends, if_pos (by rwa [station]), State.beginHold, offerSync_hold rfl (by rwa [← station] at ho), timer]
      rfl
    · rw [ends, if_neg (by simp [station, ho]), State.ownFrame, timer]
  · have ticks : s.tickHold mV = (s.sample mV).offerSync := if_pos ⟨hr, hh⟩
    refine ⟨fun ho => congrArg Host.Outcome.next ?_, fun ho => congrArg Host.Outcome.next ?_⟩
    · rw [ticks, offerSync_hold (by rwa [timer]) (by rwa [station]), timer]
      rfl
    · rw [ticks, State.offerSync, if_neg (by rw [station, ho]; simp)]
  · exact congrArg Host.Outcome.next (if_pos hr)

/-! ### O51 -/

theorem summaryDue_eq : s.summaryDue =
    if s.station.online = true ∧ s.settings.summaryInterval ≤ s.summaryTimer then
      { s with
        summaryTimer := 0
        txQueue := if s.txQueue.any (fun i => i.body.isSummary) then s.txQueue else s.txQueue ++ [⟨.summary, 0, false⟩] }
    else s := rfl

/-- With the supply LOW the end of listening starts the first shed (R140, R154). -/
theorem endListening_eq (hs : s.station = .listening) (hc : s.listenCount = 0) : s.endListening =
    (fun u : State => if s.supply.state = .low then u.shedCause true true else u)
      (State.raise .joinDone { s with
        station := .joined
        summaryTimer := 0
        txQueue := if s.txQueue.any (fun i => i.body.isSummary) then s.txQueue
          else s.txQueue ++ [⟨.summary, 0, false⟩] }) :=
  if_pos ⟨hs, hc⟩

theorem endListening_not (h : s.station ≠ .listening ∨ s.listenCount ≠ 0) : s.endListening = s :=
  if_neg fun ⟨hs, hc⟩ => h.elim (fun hn => hn hs) fun hn => hn hc

theorem endShed_eq (hs : s.shed.state = .shedding) (hh : s.shed.hold = 0) :
    s.endShed = s.cancelShed.raise .shedEnd := if_pos ⟨hs, hh⟩

theorem endShed_not (h : s.shed.state = .idle ∨ s.shed.hold ≠ 0) : s.endShed = s :=
  if_neg fun ⟨hs, hh⟩ => h.elim (fun hi => by rw [hi] at hs; cases hs) fun hn => hn hh

theorem resendShed_eq (hs : s.shed.state = .shedding) (hl : s.supply.state = .low) (hr : s.shed.resend = 0)
    (ho : s.station.online = true) : s.resendShed = { s with
      shed := { s.shed with resend := max 1 (s.settings.shedHold / 2) }
      txQueue := placeShed s.txQueue } := by
  refine (if_pos ⟨hs, hl, hr⟩).trans ?_
  exact if_pos (by exact ho)

theorem resendShed_not (h : s.shed.state = .idle ∨ s.supply.state = .normal ∨ s.shed.resend ≠ 0) :
    s.resendShed = s := by
  refine if_neg ?_
  rintro ⟨hs, hl, hr⟩
  rcases h with h | h | h
  · rw [h] at hs
    cases hs
  · rw [h] at hl
    cases hl
  · exact h hr

/-- Settles O51: each count at its end and short of it. -/
theorem countsThatRunOut : Obligations.CountsThatRunOut := by
  refine fun s => ⟨congrArg Host.Outcome.next summaryDue_eq, fun u hs hc hu => ⟨fun hn => ?_, fun hl => ?_⟩,
    fun h => congrArg Host.Outcome.next (endListening_not h), fun hs hh => ?_,
    fun h => congrArg Host.Outcome.next (endShed_not h),
    fun hs hl hr ho => congrArg Host.Outcome.next (resendShed_eq hs hl hr ho),
    fun h => congrArg Host.Outcome.next (resendShed_not h)⟩
  · refine congrArg Host.Outcome.next ((endListening_eq hs hc).trans ?_)
    rw [hu, hn]
    rfl
  · refine congrArg Host.Outcome.next ((endListening_eq hs hc).trans ?_)
    rw [hu, hl]
    rfl
  · exact ⟨s.cancelShed.channels, congrArg Host.Outcome.next ((endShed_eq hs hh).trans rfl),
      fun c => get_ofFn _ c⟩

end Sys2Proof.Machine
end

section
/-! PROOFS. The frame start and realignment (R45 to R49). -/

namespace Sys2Proof.Machine

open Sys2Proof.Safety

variable {s t : State}

/-! ### The part of a frame start that every running state takes -/

/-- The start of a frame, before the counts of the station states (R49, R65, R67). -/
def State.frameBegun (s : State) : State :=
  State.frameChannels { s with
    timer := { s.timer with sweepPending := min 64 (s.timer.sweepPending + 1) } }

theorem frameBegun_eq : s.frameBegun = { s with
    timer := { s.timer with sweepPending := min 64 (s.timer.sweepPending + 1) }
    channels := s.frameBegun.channels
    driven := s.frameBegun.driven } := by
  unfold State.frameBegun State.frameChannels
  split <;> rfl

theorem frameBegun_chan (c : Chan) : s.frameBegun.channels.get c =
    if s.station.online ∧ (s.chan c).state = .held ∧ (s.chan c).shedSuspended = false then
      { s.chan c with live := true } else s.chan c := by
  unfold State.frameBegun State.frameChannels
  dsimp only
  cases ho : s.station.online with
  | false => rfl
  | true =>
    refine (get_ofFn _ c).trans ?_
    change (s.chan c).makeLive = _
    simp only [Channel.makeLive, true_and]
    split
    · next h => simp [h.1, h.2]
    · next h =>
      have still : ((s.chan c).state == .held && !(s.chan c).shedSuspended) = false := by
        rw [Bool.eq_false_iff]
        simpa using h
      rw [still, Bool.or_false]

theorem frameBegun_driven (c : Chan) :
    s.frameBegun.driven.get c = true ↔ MayDrive (s.frameBegun.channels.get c) s.timer.slice := by
  have evaluated : s.frameBegun.driven.get c = (s.frameBegun.channels.get c).drives s.timer.slice := by
    unfold State.frameBegun State.frameChannels
    dsimp only
    cases s.station.online <;> exact get_ofFn _ c
  rw [evaluated]
  exact Channel.drives_iff _ _

/-! ### The counts of the station states -/

theorem frameBegun_station : s.frameBegun.station = s.station := by rw [frameBegun_eq]

theorem frameStart_eq : s.frameStart =
    if s.frameBegun.station.online then
      State.summaryDue { s.frameBegun.stepShed with summaryTimer := s.frameBegun.stepShed.summaryTimer + 1 }
    else if s.frameBegun.station = .listening then
      State.endListening { s.frameBegun with listenCount := s.frameBegun.listenCount - 1 }
    else s.frameBegun := rfl

theorem frameStart_online (ho : s.station.online = true) : s.frameStart =
    State.summaryDue { s.frameBegun.stepShed with summaryTimer := s.frameBegun.stepShed.summaryTimer + 1 } := by
  rw [frameStart_eq, if_pos (by rwa [frameBegun_station])]

theorem frameStart_listening (hs : s.station = .listening) : s.frameStart =
    State.endListening { s.frameBegun with listenCount := s.listenCount - 1 } := by
  have count : s.frameBegun.listenCount = s.listenCount := by rw [frameBegun_eq]
  rw [frameStart_eq, frameBegun_station, hs, if_neg (by decide), if_pos rfl, count]

theorem frameStart_leaving (ho : s.station.online = false) (hl : s.station ≠ .listening) :
    s.frameStart = s.frameBegun := by
  rw [frameStart_eq, frameBegun_station, if_neg (by simp [ho]), if_neg hl]

theorem stepShed_idle (h : s.shed.state = .idle) : s.stepShed = s := by rw [State.stepShed, h]

theorem stepShed_low (h : s.shed.state = .shedding) (hl : s.supply.state = .low) :
    s.stepShed = State.resendShed { s with shed := { s.shed with resend := s.shed.resend - 1 } } := by
  rw [State.stepShed, h, hl]

theorem stepShed_normal (h : s.shed.state = .shedding) (hl : s.supply.state = .normal) :
    s.stepShed = State.endShed { s with shed := { s.shed with hold := s.shed.hold - 1 } } := by
  rw [State.stepShed, h, hl]

theorem resendShed_summaryTimer : s.resendShed.summaryTimer = s.summaryTimer := by
  unfold State.resendShed
  split
  · unfold State.sendShed
    split <;> rfl
  · rfl

theorem endShed_summaryTimer : s.endShed.summaryTimer = s.summaryTimer := by
  unfold State.endShed
  split <;> rfl

/-! ### Realignment -/

theorem realign_stopped (f : Nat) (h : s.timer.running = false) : s.realign f = s := if_neg (by simp [h])

theorem realign_running (f : Nat) (h : s.timer.running = true) : s.realign f =
    (fun u : State => State.frameStart { u with
      timer := { u.timer with slice := 0, frame := f, hold := false }
      txQueue := withdrawItems TxBody.isSync u.txQueue })
      (s.raiseIf (decide (s.timer.slice < 56) || f != (s.timer.frame + 1) % 256) .syncSlip) := if_pos h

/-- Settles O50: the frame start by station state, and realignment with and without a slip. -/
theorem frameStartsAndRealignment : Obligations.FrameStartsAndRealignment := by
  refine ⟨fun s => ⟨s.frameBegun.channels, s.frameBegun.driven, frameBegun_chan, frameBegun_driven, fun t ht => ?_⟩,
    fun s u f hu => ⟨realign_stopped f, fun hr hs hf => ?_, fun hr hslip => ?_⟩⟩
  · obtain rfl : t = s.frameBegun := ht.trans frameBegun_eq.symm
    have shed : s.frameBegun.shed = s.shed := by rw [frameBegun_eq]
    have supply : s.frameBegun.supply = s.supply := by rw [frameBegun_eq]
    have summaryTimer : s.frameBegun.summaryTimer = s.summaryTimer := by rw [frameBegun_eq]
    refine ⟨fun ho => ⟨fun hi => ?_, fun r hs hl hr => ?_, fun r hs hn hr => ?_⟩,
      fun hs => congrArg Host.Outcome.next (frameStart_listening hs).symm, frameStart_leaving⟩
    · refine congrArg Host.Outcome.next (Eq.symm ?_)
      rw [frameStart_online ho, stepShed_idle (by rwa [shed]), summaryTimer]
    · have step : s.frameBegun.stepShed = r := by
        rw [stepShed_low (by rwa [shed]) (by rwa [supply]), shed]
        exact Host.Outcome.next.inj hr
      subst step
      have timer : s.frameBegun.stepShed.summaryTimer = s.summaryTimer := by
        rw [stepShed_low (by rwa [shed]) (by rwa [supply]), resendShed_summaryTimer]
        exact summaryTimer
      rw [frameStart_online ho, timer]
      rfl
    · have step : s.frameBegun.stepShed = r := by
        rw [stepShed_normal (by rwa [shed]) (by rwa [supply]), shed]
        exact Host.Outcome.next.inj hr
      subst step
      have timer : s.frameBegun.stepShed.summaryTimer = s.summaryTimer := by
        rw [stepShed_normal (by rwa [shed]) (by rwa [supply]), endShed_summaryTimer]
        exact summaryTimer
      rw [frameStart_online ho, timer]
      rfl
  · have regular : (decide (s.timer.slice < 56) || f != (s.timer.frame + 1) % 256) = false := by
      simp [hf]
      omega
    rw [realign_running f hr, regular, hu]
    rfl
  · have slip : (decide (s.timer.slice < 56) || f != (s.timer.frame + 1) % 256) = true := by
      simpa using hslip
    rw [realign_running f hr, slip, hu]
    rfl

end Sys2Proof.Machine
end

section
/-! PROOFS. Steps named where they cannot occur (log entry 2). -/

namespace Sys2Proof.Machine

open Sys2Proof.Safety

variable {s t : State}

/-! ### Time -/

theorem endSlice_not (mV : Nat) (h : s.timer.running = false ∨ s.timer.hold = true) : s.endSlice mV = s :=
  if_neg fun ⟨hr, hh, _⟩ => h.elim (fun h => by rw [h] at hr; cases hr) fun h => by rw [h] at hh; cases hh

theorem expireFrame_not (mV : Nat) (h : s.timer.running = false ∨ s.timer.hold = true) : s.expireFrame mV = s :=
  if_neg fun ⟨hr, hh, _⟩ => h.elim (fun h => by rw [h] at hr; cases hr) fun h => by rw [h] at hh; cases hh

theorem tickHold_not (mV : Nat) (h : s.timer.running = false ∨ s.timer.hold = false) : s.tickHold mV = s :=
  if_neg fun ⟨hr, hh⟩ => h.elim (fun h => by rw [h] at hr; cases hr) fun h => by rw [h] at hh; cases hh

theorem tickSampler_not (mV : Nat) (h : s.supply.samplerRunning = false) : s.tickSampler mV = s := if_neg (by simp [h])

/-! ### The line -/

theorem startAttempt_busy (k : StartKind) (n : Nat) (h : s.line.isIdle = false) : s.startAttempt k n = s := by
  cases k <;> exact if_neg fun ⟨_, hi, _⟩ => by rw [h] at hi; cases hi

theorem fallingEdge_not (n : Nat) (h : s.station.running = false ∨ s.line.isIdle = false) : s.fallingEdge n = s :=
  if_neg fun ⟨hr, hi⟩ => h.elim (fun h => by rw [h] at hr; cases hr) fun h => by rw [h] at hi; cases hi

theorem heldDominant_off (held : Held) (h : s.station.running = false) : s.heldDominant held = s := if_neg (by simp [h])

theorem judgeHeard_not (heard : Heard) (h : s.station.running = false ∨ s.line.phase ≠ .decoding) :
    s.judgeHeard heard = s :=
  if_neg fun ⟨hr, hd⟩ => h.elim (fun h => by rw [h] at hr; cases hr) fun h => h hd

/-- Outside an attempt this station drives no cell (R98). -/
theorem drivenCell_none (h : ∀ n, s.line.phase ≠ .sending n) (cell : Nat) : s.drivenCell cell = none := by
  unfold State.drivenCell
  split
  · next n hn => exact absurd hn (h n)
  · rfl

theorem ownEchoBegins_not (h : ∀ n, s.line.phase ≠ .sending n) : s.ownEchoBegins = s := by
  unfold State.ownEchoBegins
  split
  · next n hn => exact absurd hn (h n)
  · rfl

theorem loseArbitration_not {cell : Nat} (h : s.drivenCell cell = none) : s.loseArbitration cell = s :=
  if_neg fun ⟨_, _, hd⟩ => by rw [h] at hd; cases hd

theorem driverFails_not {found : Mismatch} (h : s.drivenCell found.cell = none) : s.driverFails found = s :=
  if_neg fun ⟨hd, _⟩ => by rw [h] at hd; cases hd

theorem conflict_not {cell : Nat} (h : s.drivenCell cell = none) : s.conflict cell = s :=
  if_neg fun ⟨_, hd⟩ => by rw [h] at hd; cases hd

theorem breakNotice_idle (k : BreakKind) (h : s.line.phase = .idle ∨ s.line.phase = .skipping) : s.breakNotice k = s :=
  if_neg (by rcases h with h | h <;> rw [h] <;> exact Bool.false_ne_true)

theorem complete_not (dominant : Nat) (first : TakenFirst) (he : ∀ n r, s.line.phase ≠ .ownEcho n r)
    (hj : ∀ v, s.line.phase ≠ .judged v) : s.complete dominant first = s := by
  unfold State.complete
  split
  · split
    · next n r h => exact absurd h (he n r)
    · next v h => exact absurd h (hj v)
    · rfl
  · rfl

theorem complete_broken {dominant : Nat} (first : TakenFirst) (h : 8 < dominant) : s.complete dominant first = s :=
  if_neg (by exact Nat.not_le.2 h)

/-! ### The port -/

theorem showMarker_none (h : s.host.response = none) : s.showMarker = s := by
  rcases s.showMarker_cases with ⟨r, -, hr, -⟩ | ⟨-, hs⟩
  · rw [h] at hr
    cases hr
  · exact hs

theorem shiftFlagByte_none (h : s.host.response = none) : s.shiftFlagByte = s := by
  rw [State.shiftFlagByte, showMarker_none h, h]

theorem shiftOutcomeByte_none (h : s.host.response = none) : s.shiftOutcomeByte = s := by
  rw [State.shiftOutcomeByte, showMarker_none h, h]

/-! ### The Table Unit -/

theorem finishEvaluate_free (h : s.unit.job = none) : s.finishEvaluate = s := by rw [State.finishEvaluate, h]

theorem finishSweep_free (h : s.unit.job = none) : s.finishSweep = s := by rw [State.finishSweep, h]

theorem finishHost_free (h : s.unit.job = none) : s.finishHost = s := by rw [State.finishHost, h]

theorem finishPlacement_free (h : s.unit.job = none) : s.finishPlacement = s := by rw [State.finishPlacement, h]

theorem losePeer_free (n : Nat) (h : s.unit.job = none) : s.losePeer n = s := by rw [State.losePeer, h]

theorem unitFree_busy (h : s.unit.job ≠ none) : ¬ s.unitFree = true := by rwa [unitFree_iff]

/-- Settles O60: each step by the condition that does not hold. -/
theorem stepsThatCannotOccurChangeNothing : Obligations.StepsThatCannotOccurChangeNothing := by
  intro s
  refine ⟨fun h mV => ⟨?_, ?_, ?_⟩, fun h mV => ⟨?_, ?_⟩, fun h mV => ?_, fun h mV => ?_, fun hi hk k n => ?_,
    fun h n held heard => ⟨?_, ?_, ?_⟩, fun h cell found => ⟨?_, ?_, ?_, ?_⟩, fun h k => ?_, fun he hj dom f => ?_,
    fun dom f h => ?_, fun h heard => ?_, fun h => ⟨?_, ?_⟩, fun h => ?_, fun h => ?_, fun h => ?_, fun h => ?_,
    fun h => ⟨?_, ?_, ?_, ?_, fun n => ?_⟩, fun h => ⟨fun c => ?_, ?_, ?_⟩⟩
  · exact congrArg Host.Outcome.next (endSlice_not mV (.inl h))
  · exact congrArg Host.Outcome.next (expireFrame_not mV (.inl h))
  · exact congrArg Host.Outcome.next (tickHold_not mV (.inl h))
  · exact congrArg Host.Outcome.next (endSlice_not mV (.inr h))
  · exact congrArg Host.Outcome.next (expireFrame_not mV (.inr h))
  · exact congrArg Host.Outcome.next (tickHold_not mV (.inr h))
  · exact congrArg Host.Outcome.next (tickSampler_not mV h)
  · have busy : s.line.isIdle = false := by simpa [Bool.eq_false_iff, isIdle_iff] using ⟨hi, hk⟩
    exact ⟨congrArg Host.Outcome.next (startAttempt_busy k n busy),
      congrArg Host.Outcome.next (fallingEdge_not n (.inr busy))⟩
  · exact congrArg Host.Outcome.next (fallingEdge_not n (.inl h))
  · exact congrArg Host.Outcome.next (heldDominant_off held h)
  · exact congrArg Host.Outcome.next (judgeHeard_not heard (.inl h))
  · exact congrArg Host.Outcome.next (loseArbitration_not (drivenCell_none h cell))
  · exact congrArg Host.Outcome.next (driverFails_not (drivenCell_none h found.cell))
  · exact congrArg Host.Outcome.next (conflict_not (drivenCell_none h cell))
  · exact congrArg Host.Outcome.next (ownEchoBegins_not h)
  · exact congrArg Host.Outcome.next (breakNotice_idle k h)
  · exact congrArg Host.Outcome.next (complete_not dom f he hj)
  · exact congrArg Host.Outcome.next (complete_broken f h)
  · exact congrArg Host.Outcome.next (judgeHeard_not heard (.inr h))
  · exact congrArg Host.Outcome.next (shiftFlagByte_none h)
  · exact congrArg Host.Outcome.next (shiftOutcomeByte_none h)
  · exact congrArg Host.Outcome.next (if_pos h)
  · exact congrArg Host.Outcome.next (if_pos (by simp [h]))
  · exact congrArg Host.Outcome.next (if_neg (by simp [h]))
  · exact congrArg Host.Outcome.next (if_neg (by simp [h]))
  · exact congrArg Host.Outcome.next (finishEvaluate_free h)
  · exact congrArg Host.Outcome.next (finishSweep_free h)
  · exact congrArg Host.Outcome.next (finishHost_free h)
  · exact congrArg Host.Outcome.next (finishPlacement_free h)
  · exact congrArg Host.Outcome.next (losePeer_free n h)
  · exact congrArg Host.Outcome.next (if_neg (unitFree_busy h))
  · exact congrArg Host.Outcome.next (if_neg (unitFree_busy h))
  · exact congrArg Host.Outcome.next (if_neg (unitFree_busy h))

end Sys2Proof.Machine
end

section
/-! PROOFS. The evaluation of a notice: its sender, the SYNC, the SHED, the CLAIM and the RELEASE (R7 to R13, R114). -/

namespace Sys2Proof.Machine

open Sys2Proof.Safety

variable {s t : State}

/-! ### The end of an EVALUATE job -/

theorem returnToJoined_eq : s.returnToJoined = checkedReturn s := by
  unfold State.returnToJoined checkedReturn
  have : (s.peers.all fun p => !p.awaiting) = true ↔ ∀ p ∈ s.peers, p.awaiting = false := by simp
  by_cases h : s.station = .desync ∧ ∀ p ∈ s.peers, p.awaiting = false
  · rw [if_pos h, if_pos ⟨h.1, this.2 h.2⟩]
  · rw [if_neg h, if_neg fun hh => h ⟨hh.1, this.1 hh.2⟩]

theorem checkedReturn_not (h : NoReturn s) : checkedReturn s = s := by
  rw [← returnToJoined_eq]
  exact State.returnToJoined_not s h

/-- The end of an EVALUATE job, of any notice but the own LEAVE (R7 to R13, R130). -/
theorem finishEvaluate_eq {item : RxItem} (h : s.unit.job = some (.evaluate item))
    (hi : ¬ (item.own = true ∧ item.notice = .leave)) :
    s.finishEvaluate = checkedReturn (s.jobChanges (.evaluate item)).freeUnit := by
  rw [State.finishEvaluate, h]
  exact (if_neg hi).trans returnToJoined_eq

/-- With nothing waiting the unit is free after the job's changes (R15, R16). -/
theorem exec_evaluated {item : RxItem} {x : State} (h : Runs s (.evaluate item))
    (hi : ¬ (item.own = true ∧ item.notice = .leave)) (hx : s.jobChanges (.evaluate item) = x) (hu : x.unit = s.unit) :
    exec (.evaluate .finish) s = .next (checkedReturn (unitDone x)) := by
  refine congrArg Host.Outcome.next ((finishEvaluate_eq h.1 hi).trans ?_)
  rw [hx, freeUnit_of_runs h hu]

/-- An own notice but a LEAVE, evaluated in a station that does not return to JOINED (R130). -/
theorem exec_own_evaluated {n : Nat} {notice : Notice} {x : State} (h : Runs s (.evaluate ⟨true, n, notice⟩))
    (hi : notice ≠ .leave) (hx : s.ownEffect notice = x) (hu : x.unit = s.unit) (hn : NoReturn x) :
    exec (.evaluate .finish) s = .next (unitDone x) := by
  rw [exec_evaluated h (fun hh => hi hh.2) hx hu, checkedReturn_not (by exact hn)]

/-! ### The sender -/

/-- The state with the known sender's silence count at 0 and its job still running (R7). -/
def settled (n : Nat) (s : State) : State :=
  { s with peers := s.peers.map fun p : Peer => if p.number = n then { p with silence := 0 } else p }

theorem unitDone_settled (n : Nat) : unitDone (settled n s) = refreshed n s := rfl

theorem settlePeer_settled {n : Nat} {notice : Notice} (h : findPeer n s.peers ≠ none) :
    s.settlePeer n notice = settled n s := if_pos (Option.isSome_iff_ne_none.2 h)

theorem settlePeer_unknown {n : Nat} {notice : Notice} (h : findPeer n s.peers = none) (hl : notice ≠ .leave) :
    s.settlePeer n notice = State.raise .peerNew
      { s with peers := insertPeer ⟨n, 0, none, false, decide (s.station = .desync)⟩ s.peers } := by
  rw [State.settlePeer, h]
  exact if_neg hl

theorem settled_noReturn (n : Nat) (h : NoReturn s) : NoReturn (settled n s) := fun hd => by
  obtain ⟨p, hp, ha⟩ := h hd
  refine ⟨_, List.mem_map_of_mem hp, ?_⟩
  split <;> exact ha

/-- A heard notice of a known sender, evaluated with the unit left alone and no return to JOINED (R7, R130). -/
theorem exec_heard_evaluated {n : Nat} {notice : Notice} {x : State} (h : Runs s (.evaluate ⟨false, n, notice⟩))
    (hf : findPeer n s.peers ≠ none) (hx : (settled n s).heardEffect n notice = x) (hu : x.unit = s.unit)
    (hn : NoReturn x) : exec (.evaluate .finish) s = .next (unitDone x) := by
  have changes : s.jobChanges (.evaluate ⟨false, n, notice⟩) = x := by
    rw [← hx, ← settlePeer_settled (notice := notice) hf]
    rfl
  rw [exec_evaluated h (by simp) changes hu, checkedReturn_not (by exact hn)]

/-! ### O38 -/

theorem findPeer_eq_none {n : Nat} {ps : List Peer} : findPeer n ps = none ↔ ∀ p ∈ ps, p.number ≠ n := by
  simp [findPeer, List.find?_eq_none]

/-- A record just created is settled as it is (R114). -/
theorem settled_inserted {n : Nat} {b : Bool} (h : findPeer n s.peers = none)
    (ht : t.peers = insertPeer ⟨n, 0, none, false, b⟩ s.peers) : settled n t = t := by
  have same : t.peers.map (fun p : Peer => if p.number = n then { p with silence := 0 } else p) = t.peers := by
    refine (List.map_congr_left (g := id) fun p hp => ?_).trans (List.map_id _)
    split
    · next hn =>
      rw [ht, mem_insertPeer] at hp
      rcases hp with rfl | hp
      · rfl
      · exact absurd hn (findPeer_eq_none.1 h p hp)
    · rfl
  rw [settled, same]

theorem findPeer_inserted {n : Nat} {b : Bool} {ps : List Peer} :
    findPeer n (insertPeer ⟨n, 0, none, false, b⟩ ps) ≠ none := fun h =>
  findPeer_eq_none.1 h _ ((mem_insertPeer _ _ _).2 (.inl rfl)) rfl

/-- Settles O38: the record first, then the rest; and the notices that change no entry. -/
theorem evaluationSettlesTheSenderFirst : Obligations.EvaluationSettlesTheSenderFirst := by
  refine ⟨fun s n notice hj hf hl => ?_, fun p ps ho hp => ⟨pairwise_insertPeer ho hp, fun q => mem_insertPeer p q ps⟩,
    fun s n notice hn => ⟨fun hk => ⟨fun h hf => ?_, fun h => ?_⟩, fun b ls h => ?_⟩⟩
  · generalize hs' : State.raise .peerNew
      { s with peers := insertPeer ⟨n, 0, none, false, decide (s.station = .desync)⟩ s.peers } = s'
    have peers : s'.peers = insertPeer ⟨n, 0, none, false, decide (s.station = .desync)⟩ s.peers := by rw [← hs']; rfl
    have job : s'.unit.job = some (.evaluate ⟨false, n, notice⟩) := by rw [← hs']; exact hj
    have first : s.settlePeer n notice = s' := (settlePeer_unknown hf hl).trans hs'
    have again : s'.settlePeer n notice = s' := by
      rw [settlePeer_settled (by rw [peers]; exact findPeer_inserted), settled_inserted hf peers]
    have changes : s.jobChanges (.evaluate ⟨false, n, notice⟩) = s'.jobChanges (.evaluate ⟨false, n, notice⟩) := by
      change (s.settlePeer n notice).heardEffect n notice = (s'.settlePeer n notice).heardEffect n notice
      rw [first, again]
    have ends : s.finishEvaluate = s'.finishEvaluate := by
      rw [finishEvaluate_eq hj (by simp), finishEvaluate_eq job (by simp), changes]
    exact congrArg Host.Outcome.next ends
  · refine exec_heard_evaluated (x := settled n s) h hf ?_ rfl (settled_noReturn n hn)
    rcases hk with ⟨f, rfl⟩ | rfl <;> rfl
  · refine exec_own_evaluated (x := s) h ?_ ?_ rfl hn
    · rcases hk with ⟨f, rfl⟩ | rfl <;> simp
    · rcases hk with ⟨f, rfl⟩ | rfl <;> rfl
  · exact exec_own_evaluated h (by simp) rfl rfl hn

end Sys2Proof.Machine
end

section
/-! PROOFS. The evaluation of a CLAIM and of a RELEASE (R8 to R10, R21, R32, R59 to R64, R70, R126). -/

namespace Sys2Proof.Machine

open Sys2Proof.Safety

variable {s t : State}

/-! ### TABLE_FULL at the end of a job -/

theorem waitingRefill_desync (hr : s.unit.refillWaiting = true) (hs : s.station = .desync) (hp : s.peers ≠ []) :
    s.waitingRefill = { s with
      peers := s.peers.map (fun p : Peer => { p with awaiting := true })
      unit := { s.unit with refillWaiting := false } } := by
  refine (if_pos hr).trans ((if_pos hs).trans (if_neg ?_))
  simpa using hp

theorem marked_noReturn (hp : s.peers ≠ []) {x : State}
    (hx : x.peers = s.peers.map fun p : Peer => { p with awaiting := true }) : NoReturn x := fun _ => by
  obtain ⟨p, hmem⟩ := List.exists_mem_of_ne_nil _ hp
  exact ⟨_, hx ▸ List.mem_map_of_mem hmem, rfl⟩

theorem freeUnit_refill (hw : s.unit.withdrawals = []) (hl : s.unit.leaveWaiting = false) :
    s.freeUnit = (unitDone s).waitingRefill := by
  have noLeave : (unitDone s).waitingLeave = unitDone s := if_neg (by rw [show (unitDone s).unit.leaveWaiting = _ from hl]; decide)
  have noWithdrawal : (unitDone s).waitingWithdrawals = unitDone s := by
    rw [State.waitingWithdrawals, show (unitDone s).unit.withdrawals = [] from hw]
    rfl
  change (unitDone s).waitingLeave.waitingWithdrawals.waitingRefill = _
  rw [noLeave, noWithdrawal]

theorem enterDesync_busy (h : s.unit.job ≠ none) : s.enterDesync =
    State.raise .desync { s with station := .desync, unit := { s.unit with refillWaiting := true } } :=
  if_neg (by exact fun hn => h (Option.isNone_iff_eq_none.1 hn))

theorem tableDoubt_online_eq (h : s.station.online = true) : s.tableDoubt = s.enterDesync := by
  unfold State.tableDoubt
  cases hs : s.station with
  | joined | desync => rfl
  | unjoined | listening | leaving | halted => rw [hs] at h; cases h

theorem tableDoubt_listening (h : s.station = .listening) :
    s.tableDoubt = { s with listenCount := s.settings.silenceLimit } := by rw [State.tableDoubt, h]

theorem tableDoubt_quiet (h : s.station.online = false) (hl : s.station ≠ .listening) : s.tableDoubt = s := by
  unfold State.tableDoubt
  cases hs : s.station with
  | joined | desync => rw [hs] at h; cases h
  | listening => exact absurd hs hl
  | unjoined | leaving | halted => rfl

/-- TABLE_FULL in JOINED and DESYNC, at the end of its job: DESYNC with every mark set (R21, R126). -/
theorem tableFull_online {j : Job} (h : Runs s j) {x : State} (hu : x.unit = s.unit) (ho : x.station.online = true)
    (hp : x.peers ≠ []) : checkedReturn x.tableFull.freeUnit =
      State.raise .desync (State.raise .tableFull { unitDone x with
        station := .desync
        peers := x.peers.map fun p : Peer => { p with awaiting := true } }) := by
  obtain ⟨hj, hw, hl, hr⟩ := h
  have entered : x.tableFull = State.raise .desync (State.raise .tableFull { x with
      station := .desync, unit := { x.unit with refillWaiting := true } }) := by
    rw [State.tableFull, tableDoubt_online_eq (by exact ho), enterDesync_busy]
    · rfl
    · rw [show (x.raise .tableFull).unit.job = _ from (congrArg _ hu).trans hj]
      simp
  rw [entered, freeUnit_refill (by exact (congrArg _ hu).trans hw) (by exact (congrArg _ hu).trans hl),
    waitingRefill_desync rfl rfl (by exact hp), checkedReturn_not (marked_noReturn hp rfl)]
  have quiet : ({ unitDone x with unit := { (unitDone x).unit with refillWaiting := false } } : State) = unitDone x := by
    rw [show (false : Bool) = x.unit.refillWaiting from by rw [hu, hr]]
    rfl
  rw [← quiet]
  rfl

theorem adoptionOver_online (h : s.station.online = true) : adoptionOver false s =
    State.raise .desync (State.raise .tableFull { s with
      station := .desync, peers := s.peers.map fun p : Peer => { p with awaiting := true } }) := by
  cases hs : s.station with
  | joined | desync => simp [adoptionOver, hs]
  | unjoined | listening | leaving | halted => rw [hs] at h; cases h

theorem adoptionOver_listening (h : s.station = .listening) : adoptionOver false s =
    State.raise .tableFull { s with listenCount := s.settings.silenceLimit } := by simp [adoptionOver, h]

theorem adoptionOver_quiet (ho : s.station.online = false) (hl : s.station ≠ .listening) :
    adoptionOver false s = s.raise .tableFull := by
  cases hs : s.station with
  | joined | desync => rw [hs] at ho; cases ho
  | listening => exact absurd hs hl
  | unjoined | leaving | halted => simp [adoptionOver, hs]

/-- What TABLE_FULL leads to at the end of its job, by station state (R21, R126). -/
theorem tableFull_over {j : Job} (h : Runs s j) {x : State} (hu : x.unit = s.unit) (hp : x.peers ≠ []) :
    checkedReturn x.tableFull.freeUnit = adoptionOver false (unitDone x) := by
  cases ho : x.station.online with
  | true => rw [tableFull_online h hu ho hp, adoptionOver_online (by exact ho)]; rfl
  | false =>
    have noReturn : ∀ y : State, y.station = x.station → NoReturn y := fun y hy hd => by
      rw [← hy, hd] at ho
      cases ho
    by_cases hl : x.station = .listening
    · have full : x.tableFull = State.raise .tableFull { x with listenCount := x.settings.silenceLimit } :=
        tableDoubt_listening (by exact hl)
      rw [full, freeUnit_of_runs h (by exact hu), adoptionOver_listening (by exact hl)]
      exact checkedReturn_not (noReturn _ rfl)
    · have full : x.tableFull = x.raise .tableFull := tableDoubt_quiet (by exact ho) (by exact hl)
      rw [full, freeUnit_of_runs h (by exact hu), adoptionOver_quiet (by exact ho) (by exact hl)]
      exact checkedReturn_not (noReturn _ rfl)

/-! ### O39 -/

theorem settled_peers_ne_nil {n : Nat} (h : findPeer n s.peers ≠ none) : (settled n s).peers ≠ [] := by
  intro hnil
  have : s.peers = [] := List.map_eq_nil_iff.1 hnil
  rw [this] at h
  exact h rfl

theorem heardClaim_void {n : Nat} {c : Chan} {w : Window} {wt : Nat}
    (h : (s.book.dropKey n c).fits false s.settings.budget wt w = false) :
    s.heardClaim n c w wt = { s with book := s.book.dropKey n c } := by
  refine if_neg ?_
  rw [h]
  decide

theorem heardClaim_fits {n : Nat} {c : Chan} {w : Window} {wt : Nat}
    (h : (s.book.dropKey n c).fits false s.settings.budget wt w = true) {o : Option Book}
    (ho : (s.book.dropKey n c).add ⟨n, c, w, wt, .held⟩ = o) :
    (∀ b, o = some b → s.heardClaim n c w wt = { s with book := b }) ∧
      (o = none → s.heardClaim n c w wt = State.tableFull { s with book := s.book.dropKey n c }) := by
  refine ⟨fun b hb => (if_pos h).trans ?_, fun hn => (if_pos h).trans ?_⟩
  · rw [ho, hb]
  · rw [ho, hn]

theorem fits_false {b : Book} {budget weight : Nat} {w : Window} : b.fits false budget weight w = false ↔
    ∃ i : Fin 64, w.start ≤ i.val ∧ i.val < w.start + w.len ∧ budget < (b.map.get i).committed + weight := by
  rw [← Bool.not_eq_true, fits_committed]
  push Not
  rfl

/-- Settles O39: void, fitting, and fitting with no position free. -/
theorem heardClaimIsTestedAndAdded : Obligations.HeardClaimIsTestedAndAdded := by
  intro s n c w wt h hn hf
  refine ⟨fun hv => ?_, fun ht => ⟨fun b hb => ?_, fun hnone => ?_⟩⟩
  · exact exec_heard_evaluated h hf (heardClaim_void (fits_false.2 hv)) rfl (settled_noReturn n hn)
  · exact exec_heard_evaluated h hf ((heardClaim_fits (s := settled n s) (fits_committed.2 ht) hb).1 b rfl) rfl
      (settled_noReturn n hn)
  · have full : s.jobChanges (.evaluate ⟨false, n, .claim c w wt⟩) =
        State.tableFull { settled n s with book := s.book.dropKey n c } := by
      change (s.settlePeer n (.claim c w wt)).heardEffect n (.claim c w wt) = _
      rw [settlePeer_settled hf]
      exact (heardClaim_fits (s := settled n s) (fits_committed.2 ht) hnone).2 rfl
    have ends : exec (.evaluate .finish) s =
        .next (adoptionOver false { refreshed n s with book := s.book.dropKey n c }) := by
      refine congrArg Host.Outcome.next ((finishEvaluate_eq h.1 (by simp)).trans ?_)
      rw [full]
      exact tableFull_over h rfl (settled_peers_ne_nil hf)
    refine ⟨fun hs => ?_, fun hs => ?_, fun ho => ?_⟩
    · rw [ends, adoptionOver_quiet (by exact (congrArg StationState.online hs).trans rfl) (by
        exact fun hl => by rw [show s.station = .listening from hl] at hs; cases hs)]
    · rw [ends, adoptionOver_listening (by exact hs)]
      rfl
    · rw [ends, adoptionOver_online (by exact ho)]

end Sys2Proof.Machine
end

section
/-! PROOFS. The evaluation of an own CLAIM, and of a RELEASE (R8 to R10, R32, R59 to R64, R70). -/

namespace Sys2Proof.Machine

open Sys2Proof.Safety

variable {s t : State} {c : Chan} {w : Window} {wt : Nat}

/-! ### O40 -/

theorem ownClaim_not (h : (s.chan c).state ≠ .claiming) : s.ownClaim c w wt = s := if_neg h

theorem ownClaim_fits (h : (s.chan c).state = .claiming) (hf : s.book.fits false s.settings.budget wt w = true) :
    s.ownClaim c w wt = State.grantChannel c { s with book := s.book.restateKey s.settings.stationNumber c .held } :=
  (if_pos h).trans (if_pos hf)

theorem ownClaim_void (h : (s.chan c).state = .claiming) (hf : s.book.fits false s.settings.budget wt w = false) :
    s.ownClaim c w wt = State.voidChannel c { s with book := s.book.dropKey s.settings.stationNumber c } :=
  (if_pos h).trans (if_neg (by rw [hf]; decide))

theorem grantChannel_granted (h : (s.chan c).releasePending = false) : s.grantChannel c =
    (({ s with grants := s.grants ++ [c] }.setChan c { s.chan c with state := .held }).writeOutcome c .granted
      (s.chan c).window) :=
  if_neg (by exact fun hp => by rw [show (s.chan c).releasePending = true from hp] at h; cases h)

theorem grantChannel_releasing (h : (s.chan c).releasePending = true) : s.grantChannel c =
    { s with
      book := s.book.restateKey s.settings.stationNumber c .releasing
      grants := s.grants ++ [c]
      txQueue := if s.station.online then s.txQueue ++ [(⟨.release c, 0, false⟩ : TxItem)] else s.txQueue }.setChan c
      { s.chan c with state := .releasing, releasePending := false } := by
  refine (if_pos (by exact h)).trans ?_
  rw [sendRelease_eq]
  rfl

theorem voidChannel_withdrawn (h : (s.chan c).releasePending = true) :
    s.voidChannel c = s.endChannel c .withdrawn := if_pos h

theorem voidChannel_again (h : (s.chan c).releasePending = false) (ha : (s.chan c).attempts < 4) :
    s.voidChannel c = s.setChan c
      { s.chan c with state := .placing, window := none, attempts := (s.chan c).attempts + 1 } :=
  (if_neg (by rw [h]; decide)).trans (if_pos ha)

theorem voidChannel_contested (h : (s.chan c).releasePending = false) (ha : 4 ≤ (s.chan c).attempts) :
    s.voidChannel c = s.endChannel c .refusedContested :=
  (if_neg (by rw [h]; decide)).trans (if_neg (Nat.not_lt.2 ha))

/-- Settles O40: the grant, the void claim, and the claim of a channel that has moved on. -/
theorem ownClaimGrantsOrVoids : Obligations.OwnClaimGrantsOrVoids := by
  intro s n c w wt h hn
  refine ⟨fun hc => ?_, fun hc hf => ⟨fun hp => ?_, fun hp => ?_⟩, fun hc hv => ⟨fun hp ha => ?_, fun hd => ?_⟩⟩
  · exact exec_own_evaluated h (by simp) (ownClaim_not hc) rfl hn
  · exact exec_own_evaluated h (by simp)
      ((ownClaim_fits hc (fits_committed.2 hf)).trans (grantChannel_granted (by exact hp))) rfl (by exact hn)
  · exact exec_own_evaluated h (by simp)
      ((ownClaim_fits hc (fits_committed.2 hf)).trans (grantChannel_releasing (by exact hp))) rfl (by exact hn)
  · exact exec_own_evaluated h (by simp)
      ((ownClaim_void hc (fits_false.2 hv)).trans (voidChannel_again (by exact hp) (by exact ha))) rfl (by exact hn)
  · cases hp : (s.chan c).releasePending with
    | true =>
      exact exec_own_evaluated h (by simp)
        ((ownClaim_void hc (fits_false.2 hv)).trans (voidChannel_withdrawn (by exact hp))) rfl (by exact hn)
    | false =>
      have many : 4 ≤ (s.chan c).attempts := hd.resolve_left (by rw [hp]; decide)
      exact exec_own_evaluated h (by simp)
        ((ownClaim_void hc (fits_false.2 hv)).trans (voidChannel_contested (by exact hp) (by exact many))) rfl
        (by exact hn)

/-! ### O41 -/

theorem ownRelease_not (h : (s.chan c).state ≠ .releasing) : s.ownRelease c = s := if_neg h

theorem ownRelease_released (h : (s.chan c).state = .releasing) (hr : (s.chan c).reRequest = false) :
    s.ownRelease c = (({ s with
        book := s.book.dropKey s.settings.stationNumber c
        grants := s.grants.filter (· != c) }.setChan c (s.chan c).toIdle).writeOutcome c .released
      (s.chan c).window) :=
  (if_pos h).trans (if_neg (by rw [hr]; decide))

theorem ownRelease_yielded (h : (s.chan c).state = .releasing) (hr : (s.chan c).reRequest = true) :
    s.ownRelease c = (({ s with
        book := s.book.dropKey s.settings.stationNumber c
        grants := s.grants.filter (· != c) }.setChan c
          { (s.chan c).toIdle with state := .placing, attempts := 0 }).writeOutcome c .yielded
      (s.chan c).window) :=
  (if_pos h).trans (if_pos hr)

/-- Settles O41: a heard RELEASE, and an own one by its channel. -/
theorem releasesGiveTheWindowBack : Obligations.ReleasesGiveTheWindowBack := by
  refine fun s n c hn => ⟨fun h hf => ?_, fun h => ⟨fun hc => ?_, fun hc hr => ?_, fun hc hr => ?_⟩⟩
  · exact exec_heard_evaluated (x := { settled n s with book := s.book.dropKey n c }) h hf rfl rfl
      (settled_noReturn n hn)
  · exact exec_own_evaluated h (by simp) (ownRelease_not hc) rfl hn
  · exact exec_own_evaluated h (by simp) (ownRelease_released hc hr) rfl (by exact hn)
  · exact exec_own_evaluated h (by simp) (ownRelease_yielded hc hr) rfl (by exact hn)

end Sys2Proof.Machine
end

section
/-! PROOFS. The evaluation of a LEAVE (R11, R23, R74, R116, R130, R143). -/

namespace Sys2Proof.Machine

open Sys2Proof.Safety

variable {s t : State} {n : Nat}

/-! ### A heard LEAVE -/

theorem heardLeave_unknown (h : findPeer n s.peers = none) : s.heardLeave n = s := by
  refine if_neg ?_
  rw [h]
  decide

/-- The record goes with its silence count, settled or not (R7, R116). -/
theorem removePeer_settled : removePeer n (settled n s).peers = s.peers.filter fun p => p.number != n := by
  rw [removePeer, settled, List.filter_map]
  have same : ((fun p : Peer => p.number != n) ∘ fun p : Peer => if p.number = n then { p with silence := 0 } else p) =
      fun p => p.number != n := by
    funext p
    simp only [Function.comp]
    split <;> rfl
  rw [same]
  refine (List.map_congr_left (g := id) fun p hp => if_neg ?_).trans (List.map_id _)
  simpa using (List.mem_filter.1 hp).2

theorem jobChanges_leave (h : findPeer n s.peers ≠ none) : s.jobChanges (.evaluate ⟨false, n, .leave⟩) =
    State.raise .peerGone { s with
      book := s.book.dropOwned n
      peers := s.peers.filter fun p => p.number != n } := by
  change (s.settlePeer n .leave).heardLeave n = _
  rw [settlePeer_settled h]
  refine (if_pos ?_).trans ?_
  · obtain ⟨p, hp⟩ := Option.ne_none_iff_exists'.1 h
    obtain ⟨hn, hmem⟩ := And.intro (List.find?_some hp) (List.mem_of_find?_eq_some hp)
    refine (findPeer_isSome n (settled n s).peers).2 ⟨_, List.mem_map_of_mem hmem, ?_⟩
    split <;> simpa using hn
  · rw [State.removeStation, removePeer_settled]
    rfl

/-! ### The own LEAVE -/

theorem portAtEntry_none (abandoned : Bool) (h : s.host.waitingCommand = none) : s.portAtEntry abandoned = s := by
  rw [State.portAtEntry, h]

theorem finishEvaluate_ownLeave (h : s.unit.job = some (.evaluate ⟨true, n, .leave⟩)) :
    s.finishEvaluate = State.portAtEntry false s.leaveDone := by
  rw [State.finishEvaluate, h]
  exact if_pos ⟨rfl, rfl⟩

theorem leaveDone_host : s.leaveDone.host = s.host := by
  rw [leaveDone_eq, offLine_eq]
  rfl

/-! ### O42 -/

/-- Settles O42: a heard LEAVE with its sender known or not, and the own one. -/
theorem leavesRemoveTheStation : Obligations.LeavesRemoveTheStation := by
  refine fun s n => ⟨fun h => ⟨fun hf hn => ?_, fun hf => ⟨fun hd => ?_, fun hd ha => ?_⟩⟩, fun hj hw => ?_⟩
  · have same : s.jobChanges (.evaluate ⟨false, n, .leave⟩) = s := by
      change (s.settlePeer n .leave).heardLeave n = _
      rw [State.settlePeer, hf]
      exact heardLeave_unknown hf
    rw [exec_evaluated h (by simp) same rfl, checkedReturn_not (by exact hn)]
  · have changes := jobChanges_leave hf
    generalize s.book.dropOwned n = b at changes ⊢
    rw [exec_evaluated h (by simp) changes rfl, checkedReturn_not]
    · rfl
    · intro hs
      obtain ⟨p, hp, hpn, hpa⟩ := hd hs
      exact ⟨p, List.mem_filter.2 ⟨hp, by simpa using hpn⟩, hpa⟩
  · have changes := jobChanges_leave hf
    generalize s.book.dropOwned n = b at changes ⊢
    rw [exec_evaluated h (by simp) changes rfl]
    refine congrArg Host.Outcome.next (if_pos ⟨hd, fun p hp => ?_⟩)
    obtain ⟨hmem, hpn⟩ := List.mem_filter.1 hp
    exact ha p hmem (by simpa using hpn)
  · refine ⟨s.leaveDone.channels, s.leaveDone.events, congrArg Host.Outcome.next ?_, ?_, ?_, fun c => ?_⟩
    · refine (finishEvaluate_ownLeave hj).trans ?_
      rw [portAtEntry_none _ (by rw [leaveDone_host, hw])]
      exact offLine_eq _ _ _ _
    · rw [leaveDone_eq, offLine_flags]
      simp only [dropsAtLeave_iff, BitVec.or_assoc, BitVec.or_comm (eventBit .leaveDone)]
    · exact offLine_mask _ _ _ _
    · have record := offLine_chan (s := s) ChanState.dropsAtLeave .unjoined .none .leaveDone c
      refine record.trans ?_
      by_cases hc : entryStateOf (s.chan c).state = none
      · rw [if_pos hc, if_neg (by rw [dropsAtLeave_iff]; exact not_not.2 hc)]
      · rw [if_neg hc, if_pos ((dropsAtLeave_iff _).2 hc)]

end Sys2Proof.Machine
end

section
/-! PROOFS. The end of a PLACEMENT job (R25 to R31, R57). -/

namespace Sys2Proof.Machine

open Sys2Proof.Safety

variable {s t : State} {c : Chan} {w : Window}

/-- A PLACEMENT job's changes, with nothing waiting (R16). -/
theorem exec_placed {x : State} (h : Runs s (.placement c)) (hx : s.jobChanges (.placement c) = x)
    (hu : x.unit = s.unit) : exec (.placement .finish) s = .next (unitDone x) := by
  have ends : s.finishPlacement = unitDone x := by
    rw [State.finishPlacement, h.1]
    dsimp only
    rw [State.endPlacement, State.endJob, hx, freeUnit_of_runs h hu]
  exact congrArg Host.Outcome.next ends

theorem numberPlacement_eq (ch : Channel) :
    ch.numberPlacement = { ch with attempts := if ch.attempts = 0 then 1 else ch.attempts } := by
  have : max 1 ch.attempts = if ch.attempts = 0 then 1 else ch.attempts := by
    split <;> omega
  rw [Channel.numberPlacement, this]

/-- The channel numbered, the result is applied in JOINED and DESYNC only (R25, R35). -/
theorem jobChanges_placement {ch : Channel} (hch : (s.chan c).numberPlacement = ch) :
    s.jobChanges (.placement c) =
      if s.station.online then (s.setChan c ch).placementResult c else s.setChan c ch := by
  rw [← hch]
  rfl

theorem placementWindow_tried {tried rest : List Window} (hc : (s.chan c).candidates = tried ++ rest)
    (ht : ∀ w ∈ tried, s.book.fits true s.settings.budget (s.settings.weight.get c) w = false) :
    s.placementWindow c =
      rest.find? fun w => s.book.fits true s.settings.budget (s.settings.weight.get c) w := by
  rw [State.placementWindow, hc, List.find?_append, List.find?_eq_none.2 fun w hw => by simp [ht w hw], Option.none_or]

theorem placementResult_noRoom (h : s.placementWindow c = none) :
    s.placementResult c = s.endChannel c .refusedNoRoom := by rw [State.placementResult, h]

theorem placementResult_noEntry (h : s.placementWindow c = some w)
    (ha : s.book.add ⟨s.settings.stationNumber, c, w, s.settings.weight.get c, .claiming⟩ = none) :
    s.placementResult c = s.endChannel c .refusedNoEntry := by
  rw [State.placementResult, h]
  dsimp only
  rw [ha]

theorem placementResult_fits {b : Book} (h : s.placementWindow c = some w)
    (ha : s.book.add ⟨s.settings.stationNumber, c, w, s.settings.weight.get c, .claiming⟩ = some b) :
    s.placementResult c =
      if (s.chan c).releasePending then s.endChannel c .withdrawn
      else
        { s with book := b, txQueue := s.txQueue ++ [(⟨.claim c w (s.settings.weight.get c), 0, false⟩ : TxItem)] }.setChan c
          { s.chan c with state := .claiming, window := some w } := by
  rw [State.placementResult, h]
  dsimp only
  rw [ha]
  rfl

/-- A channel put in and then ended is ended as it was put in (Table 4-2). -/
theorem endChannel_setChan (ch : Channel) (k : OutcomeKind) :
    (s.setChan c ch).endChannel c k = (s.setChan c ch.toIdle).writeOutcome c k none := by
  rw [State.endChannel, modChan_eq, State.setChan_setChan, State.setChan_chan, if_pos rfl]

/-- Settles O46: the candidates that do not fit are passed over; then the result by station, room, entry and mark. -/
theorem placementTakesTheFirstFit : Obligations.PlacementTakesTheFirstFit := by
  intro s c tried rest fits numbered h hcand hfits hnum hno
  have fit : ∀ w, fits w ↔ s.book.fits true s.settings.budget (s.settings.weight.get c) w = true :=
    fun w => (hfits w).trans fits_placing.symm
  have record : (s.setChan c numbered).chan c = numbered := by rw [State.setChan_chan, if_pos rfl]
  have number : (s.chan c).numberPlacement = numbered := (numberPlacement_eq _).trans hnum.symm
  have window : (s.setChan c numbered).placementWindow c =
      rest.find? fun w => s.book.fits true s.settings.budget (s.settings.weight.get c) w := by
    refine placementWindow_tried ?_ fun w hw => Bool.eq_false_iff.2 fun hf => hno w hw ((fit w).2 hf)
    rw [record, hcand, hnum]
    cases hm : (s.chan c).mode <;> simp only [Channel.candidates, hm]
  have applied : s.station.online = true → s.jobChanges (.placement c) = (s.setChan c numbered).placementResult c :=
    fun ho => (jobChanges_placement number).trans (if_pos ho)
  refine ⟨fun ho => ?_, fun ho hr => ?_, fun w more ho hr hw => ?_⟩
  · refine (exec_placed (x := s.setChan c numbered) h ((jobChanges_placement number).trans (if_neg ?_)) rfl).trans rfl
    rw [ho]
    decide
  · refine exec_placed h ((applied ho).trans ((placementResult_noRoom ?_).trans (endChannel_setChan _ _))) rfl
    rw [window, hr]
    rfl
  · have found : (s.setChan c numbered).placementWindow c = some w := by
      rw [window, hr]
      exact List.find?_cons_of_pos ((fit w).1 hw)
    have pending : numbered.releasePending = (s.chan c).releasePending := by rw [hnum]
    refine ⟨fun ha => ?_, fun b ha => ⟨fun hp => ?_, fun hp => ?_⟩⟩
    · exact exec_placed h ((applied ho).trans ((placementResult_noEntry found ha).trans (endChannel_setChan _ _))) rfl
    · refine exec_placed h ((applied ho).trans ((placementResult_fits found ha).trans ((if_pos ?_).trans
        (endChannel_setChan _ _)))) rfl
      rw [record, pending, hp]
    · refine (exec_placed h ((applied ho).trans ((placementResult_fits found ha).trans (if_neg ?_))) rfl).trans ?_
      · rw [record, pending, hp]
        decide
      · rw [record]
        refine congrArg Host.Outcome.next ?_
        exact congrArg unitDone (State.setChan_setChan { s with book := b, txQueue := _ } c numbered _)

end Sys2Proof.Machine
end

section
/-! PROOFS. The losses of a sweep (R19, R20, R116, R128, R130). -/

namespace Sys2Proof.Machine

open Sys2Proof.Safety

variable {s t : State}

/-! ### One loss -/

/-- A running sweep, its tables and the mark of its losses as given. -/
def sweeping (b : Book) (ps : List Peer) (lost : Bool) (s : State) : State :=
  { s with book := b, peers := ps, unit := { s.unit with job := some (.sweep lost) } }

theorem nextLost_eq {kept rest : List Peer} {p : Peer} (hp : s.peers = kept ++ p :: rest)
    (hk : ∀ q ∈ kept, q.silence < s.settings.silenceLimit) (hl : s.settings.silenceLimit ≤ p.silence) :
    s.nextLost = some p.number := by
  have below : kept.find? (fun q => s.settings.silenceLimit ≤ q.silence) = none :=
    List.find?_eq_none.2 fun q hq => by simpa using hk q hq
  rw [State.nextLost, hp, List.find?_append, below, Option.none_or, List.find?_cons_of_pos (by simpa using hl)]
  rfl

theorem losePeer_lost {lost : Bool} {n : Nat} (hj : s.unit.job = some (.sweep lost)) (hn : s.nextLost = some n) :
    s.losePeer n = sweeping (s.book.dropOwned n) (s.peers.filter fun q => q.number != n) true s := by
  rw [State.losePeer, hj]
  refine (if_pos hn).trans ?_
  rw [State.removeStation]
  generalize s.book.dropOwned n = b
  rfl

theorem losePeer_not {n : Nat} (hn : s.nextLost ≠ some n) : s.losePeer n = s := by
  rcases s.losePeer_cases n with ⟨-, -, h, -⟩ | h
  · exact absurd h hn
  · exact h

/-- With the peers in order, none but the first at the limit is lost next (R19). -/
theorem nextLost_not {n : Nat} (ho : s.peers.Pairwise fun p q => p.number < q.number)
    (h : ∀ p ∈ s.peers, p.number = n → p.silence < s.settings.silenceLimit ∨
      ∃ q ∈ s.peers, q.number < n ∧ s.settings.silenceLimit ≤ q.silence) : s.nextLost ≠ some n := fun hn => by
  obtain ⟨p, hp, hpn, hl, hfirst⟩ := State.nextLost_first s hn
  rcases h p hp hpn with hs | ⟨q, hq, hqn, hql⟩
  · omega
  · have := hfirst ho q hq hql
    omega

/-! ### All the losses -/

/-- The table without the entries of the peers at the limit (R19). -/
def lostBook (limit : Nat) (ps : List Peer) (b : Book) : Book :=
  ps.foldl (fun b p => if limit ≤ p.silence then b.dropOwned p.number else b) b

theorem lostBook_entry (limit : Nat) (q : Fin 96) : ∀ (ps : List Peer) (b : Book), (lostBook limit ps b).entry q =
    if (b.entry q).any (fun e => ps.any fun p => p.number == e.owner && decide (limit ≤ p.silence)) then none
    else b.entry q := by
  intro ps
  induction ps with
  | nil =>
    intro b
    cases h : b.entry q <;> simp [lostBook, h]
  | cons p ps ih =>
    intro b
    have first : lostBook limit (p :: ps) b = lostBook limit ps (if limit ≤ p.silence then b.dropOwned p.number else b) :=
      rfl
    rw [first, ih]
    by_cases hl : limit ≤ p.silence
    · rw [if_pos hl, Book.dropOwned_entry]
      cases h : b.entry q with
      | none => simp
      | some e =>
        by_cases ho : e.owner = p.number
        · simp [ho, hl]
        · simp [ho, hl, Ne.symm ho]
    · rw [if_neg hl]
      cases h : b.entry q with
      | none => simp
      | some e => simp [hl]

theorem losePeers_from : ∀ (rest kept : List Peer) (b : Book) (lost : Bool),
    (kept ++ rest).Pairwise (fun p q => p.number < q.number) →
    (∀ p ∈ kept, p.silence < s.settings.silenceLimit) →
      (rest.map (·.number)).foldl (fun s n => s.losePeer n) (sweeping b (kept ++ rest) lost s) =
        sweeping (lostBook s.settings.silenceLimit rest b)
          (kept ++ rest.filter fun p => decide (p.silence < s.settings.silenceLimit))
          (lost || rest.any fun p => decide (s.settings.silenceLimit ≤ p.silence)) s := by
  intro rest
  induction rest with
  | nil =>
    intro kept b lost _ _
    simp [lostBook]
  | cons p rest ih =>
    intro kept b lost ho hk
    obtain ⟨hok, hor, hkr⟩ := List.pairwise_append.1 ho
    rw [List.map_cons, List.foldl_cons]
    by_cases hl : s.settings.silenceLimit ≤ p.silence
    · -- the peer is lost, and no other record has its number
      have others : (kept ++ p :: rest).filter (fun q => q.number != p.number) = kept ++ rest := by
        rw [List.filter_append, List.filter_cons_of_neg (by simp), List.filter_eq_self.2, List.filter_eq_self.2]
        · intro q hq
          have := List.rel_of_pairwise_cons hor hq
          simpa using by omega
        · intro q hq
          have := hkr q hq p List.mem_cons_self
          simpa using by omega
      have step : (sweeping b (kept ++ p :: rest) lost s).losePeer p.number =
          sweeping (b.dropOwned p.number) (kept ++ rest) true s := by
        have next := nextLost_eq (s := sweeping b (kept ++ p :: rest) lost s) rfl hk hl
        rw [losePeer_lost (lost := lost) rfl next, ← others]
        rfl
      rw [step, ih kept _ true (ho.sublist (by simp)) hk, List.filter_cons_of_neg (by simpa using hl)]
      simp [lostBook, hl]
    · have step : (sweeping b (kept ++ p :: rest) lost s).losePeer p.number =
          sweeping b ((kept ++ [p]) ++ rest) lost s := by
        rw [List.append_assoc, List.singleton_append]
        refine losePeer_not (nextLost_not ho fun q hq hn => .inl ?_)
        have same : q = p := by
          rcases List.mem_append.1 hq with hq | hq
          · have := hkr q hq p List.mem_cons_self
            omega
          · rcases List.mem_cons.1 hq with hq | hq
            · exact hq
            · have := List.rel_of_pairwise_cons hor hq
              omega
        rw [same]
        exact Nat.lt_of_not_le hl
      rw [step, ih (kept ++ [p]) b lost (by simpa using ho) (by
        intro q hq
        rcases List.mem_append.1 hq with hq | hq
        · exact hk q hq
        · rw [List.mem_singleton.1 hq]
          exact Nat.lt_of_not_le hl)]
      simp [lostBook, hl, Nat.lt_of_not_le hl]

/-- The losses of a sweep, with PEER_GONE once (R19, R20). -/
theorem jobChanges_sweep {lost : Bool} (hj : s.unit.job = some (.sweep lost))
    (ho : s.peers.Pairwise fun p q => p.number < q.number) :
    s.jobChanges (.sweep lost) = State.raiseIf
      (lost || s.peers.any fun p => decide (s.settings.silenceLimit ≤ p.silence)) .peerGone
      (sweeping (lostBook s.settings.silenceLimit s.peers s.book)
        (s.peers.filter fun p => decide (p.silence < s.settings.silenceLimit))
        (lost || s.peers.any fun p => decide (s.settings.silenceLimit ≤ p.silence)) s) := by
  have start : sweeping s.book s.peers lost s = s := by
    rw [sweeping, ← hj]
  have losses := losePeers_from (s := s) s.peers [] s.book lost ho (by simp)
  rw [List.nil_append, List.nil_append, start] at losses
  change State.raiseIf (s.losePeers.unit.job == some (.sweep true)) .peerGone s.losePeers = _
  rw [State.losePeers, losses]
  generalize (lost || s.peers.any fun p => decide (s.settings.silenceLimit ≤ p.silence)) = flag
  cases flag <;> rfl

theorem raiseIf_eq (b : Bool) (e : Event) :
    s.raiseIf b e = { s with events := (s.raiseIf b e).events } := by
  cases b <;> rfl

theorem raiseIf_flags (b : Bool) (e : Event) :
    (s.raiseIf b e).events.flags = s.events.flags ||| (if b = true then eventBit e else 0#16) := by
  cases b <;> simp [State.raiseIf, State.raise_flags]

theorem raiseIf_mask (b : Bool) (e : Event) : (s.raiseIf b e).events.mask = s.events.mask := by
  cases b <;> rfl

/-- Settles O45: one loss in its turn, none out of it, and the end of a sweep. -/
theorem sweepsLoseSilentPeers : Obligations.SweepsLoseSilentPeers := by
  intro s lost hlegal
  have order : s.peers.Pairwise fun p q => p.number < q.number := hlegal.1
  refine ⟨fun n p hj hp hl hfirst => ?_, fun n hn => ?_, fun h => ?_⟩
  · have number : p.number = n := by simpa using List.find?_some hp
    have next : s.nextLost = some n := by
      cases hx : s.nextLost with
      | none =>
        rw [State.nextLost, Option.map_eq_none_iff, List.find?_eq_none] at hx
        exact absurd hl (by simpa using hx p (List.mem_of_find?_eq_some hp))
      | some m =>
        obtain ⟨q, hq, hqm, hql, hqf⟩ := State.nextLost_first s hx
        have := hfirst q hq hql
        have := hqf order p (List.mem_of_find?_eq_some hp) hl
        rw [Option.some.injEq]
        omega
    refine congrArg Host.Outcome.next ((losePeer_lost hj next).trans ?_)
    rw [sweeping]
  · exact congrArg Host.Outcome.next (losePeer_not (nextLost_not order hn))
  · obtain ⟨hj, hw, hlv, hr⟩ := h
    generalize hflag : (lost || s.peers.any fun p => decide (s.settings.silenceLimit ≤ p.silence)) = flag
    have changes := jobChanges_sweep hj order
    rw [hflag] at changes
    refine ⟨lostBook s.settings.silenceLimit s.peers s.book, (s.raiseIf flag .peerGone).events, ?_,
      fun p => lostBook_entry _ p s.peers s.book, raiseIf_mask _ _, ?_⟩
    · have ends : s.finishSweep = checkedReturn (s.jobChanges (.sweep lost)).freeUnit := by
        rw [State.finishSweep, hj]
        exact returnToJoined_eq
      refine congrArg Host.Outcome.next (ends.trans (congrArg checkedReturn ?_))
      rw [changes]
      generalize lostBook s.settings.silenceLimit s.peers s.book = b
      rw [raiseIf_eq, State.freeUnit_quiet _ (by exact hw) (by exact hlv) (by exact hr)]
      cases flag <;> rfl
    · rw [raiseIf_flags, ← hflag]
      simp

end Sys2Proof.Machine
end

section
/-! PROOFS. The cells of a notice read back, and cut short (R77, R79, R98, R109, R182). -/

namespace Sys2Proof.Machine

open Sys2Proof.Safety

variable {n : Notice} {sender : Nat}

/-! ### Fields read back -/

/-- A field that lies within the first cells is read from them alone. -/
theorem field_take {off len k : Nat} (cells : List Bool) (h : off + len ≤ k) :
    field off len (cells.take k) = field off len cells := by
  rw [field, field, List.drop_take, List.take_take, Nat.min_eq_left (by omega)]

theorem field_drop (off skip len : Nat) (cells : List Bool) : field off len (cells.drop skip) = field (skip + off) len cells := by
  rw [field, field, List.drop_drop]

theorem field_of_append {before after : List Bool} {off w n : Nat} (ho : before.length = off) (hn : n < 2 ^ w) :
    field off w (before ++ (natBits w n ++ after)) = n := ho ▸ field_append_natBits before after w n hn

theorem chanOf_fin (c : Chan) : chanOf c.val = c := Fin.ext (Nat.mod_eq_of_lt c.isLt)

/-- A listed entry is read back from its cells (R182). -/
theorem readListed_cells {l : Listed} (h : ListedHasCells l) (after : List Bool) : readListed (l.cells ++ after) = l := by
  obtain ⟨c, ⟨st, len⟩, wt⟩ := l
  obtain ⟨hs, h1, h64, hw⟩ := h
  have chan : field 0 3 (Listed.cells ⟨c, ⟨st, len⟩, wt⟩ ++ after) = c.val := by
    rw [Listed.cells, List.append_assoc, List.append_assoc, List.append_assoc]
    exact field_of_append (before := []) rfl (Nat.lt_of_lt_of_le c.isLt (by decide))
  have start : field 3 6 (Listed.cells ⟨c, ⟨st, len⟩, wt⟩ ++ after) = st := by
    rw [Listed.cells, List.append_assoc, List.append_assoc, List.append_assoc]
    exact field_of_append (length_natBits 3 _) (Nat.lt_of_le_of_lt hs (by decide))
  have length : field 9 6 (Listed.cells ⟨c, ⟨st, len⟩, wt⟩ ++ after) = len - 1 := by
    rw [Listed.cells, List.append_assoc, List.append_assoc]
    exact field_of_append (by simp) (by have : len ≤ 64 := h64; omega)
  have weight : field 15 6 (Listed.cells ⟨c, ⟨st, len⟩, wt⟩ ++ after) = wt := by
    rw [Listed.cells, List.append_assoc]
    exact field_of_append (by simp) (Nat.lt_of_le_of_lt hw (by decide))
  rw [readListed, chan, start, length, weight, chanOf_fin, Nat.sub_add_cancel h1]

theorem readList_cells (after : List Bool) : ∀ ls : List Listed, (∀ l ∈ ls, ListedHasCells l) →
    readList ls.length (ls.flatMap Listed.cells ++ after) = ls := by
  intro ls
  induction ls with
  | nil => exact fun _ => rfl
  | cons l ls ih =>
    intro h
    rw [List.length_cons, readList, List.flatMap_cons, List.append_assoc, readListed_cells (h l List.mem_cons_self),
      List.drop_left' (length_listedCells l), ih fun m hm => h m (List.mem_cons_of_mem l hm)]

/-- A payload is read back from its cells (R182). -/
theorem readPayload_cells (h : HasCells n) : readPayload n.kind n.payloadCells = n := by
  cases n with
  | sync f =>
    have value : field 0 8 (natBits 8 f) = f := by
      have := field_of_append (before := []) (after := []) (off := 0) (w := 8) rfl (Nat.lt_of_le_of_lt h (by decide))
      rwa [List.append_nil, List.nil_append] at this
    exact congrArg Notice.sync value
  | shed => rfl
  | release c =>
    have value : field 0 3 (natBits 3 c.val) = c.val := by
      have := field_of_append (before := []) (after := []) (off := 0) (w := 3) (n := c.val) rfl
        (Nat.lt_of_lt_of_le c.isLt (by decide))
      rwa [List.append_nil, List.nil_append] at this
    exact congrArg Notice.release ((congrArg chanOf value).trans (chanOf_fin c))
  | claim c w wt =>
    have value : readListed (Listed.cells ⟨c, w, wt⟩) = ⟨c, w, wt⟩ := by
      have := readListed_cells h []
      rwa [List.append_nil] at this
    exact congrArg (fun l : Listed => Notice.claim l.chan l.win l.weight) value
  | leave => rfl
  | summary b ls =>
    obtain ⟨hb, hlen, hls⟩ := h
    have budget : field 0 12 (Notice.summary b ls).payloadCells = b := by
      rw [Notice.payloadCells, List.append_assoc]
      exact field_of_append (before := []) rfl (Nat.lt_of_le_of_lt hb (by decide))
    have count : field 12 4 (Notice.summary b ls).payloadCells = ls.length := by
      rw [Notice.payloadCells, List.append_assoc]
      exact field_of_append (length_natBits 12 b) (Nat.lt_of_le_of_lt hlen (by decide))
    have list : (Notice.summary b ls).payloadCells.drop 16 = ls.flatMap Listed.cells := by
      rw [Notice.payloadCells]
      exact List.drop_left' (by simp)
    have read := readList_cells [] ls hls
    rw [List.append_nil] at read
    change Notice.summary (field 0 12 _) (readList (field 12 4 _) (List.drop 16 _)) = _
    rw [budget, count, list, read]

theorem field_sender_coveredCells (h1 : 1 ≤ sender) (h32 : sender ≤ 32) (after : List Bool) :
    field 3 5 (n.coveredCells sender ++ after) = sender - 1 := by
  rw [Notice.coveredCells, List.append_assoc, List.append_assoc]
  exact field_of_append (length_natBits 3 _) (by omega)

/-! ### The round trip -/

/-- A whole notice is read back, or judged malformed where its fields are (R79, R92). -/
theorem decodeNotice_cells (hn : HasCells n) (h1 : 1 ≤ sender) (h32 : sender ≤ 32) (rest : List Bool) :
    decodeNotice (n.cells sender ++ rest) = if n.wellFormed then .good sender n else .malformedFields := by
  rw [Notice.cells, List.append_assoc]
  have kindRead := field_kind_coveredCells n sender (crcCells (n.coveredCells sender) ++ rest)
  have coveredRead := length_coveredCells_eq_of_fields n sender (crcCells (n.coveredCells sender) ++ rest) hn
  have payload : (n.coveredCells sender).drop 8 = n.payloadCells := List.drop_left' (by simp)
  rw [decodeNotice_of_complete _ (kindRead ▸ n.kind_lt)
      (fun hfive => field_count_le_of_kind_eq_five n sender _ hn (kindRead ▸ hfive)) _ (kindRead.symm ▸ coveredRead)
      (by simp), List.take_left, List.drop_left, List.take_left' (length_crcCells _), if_neg (not_not.2 rfl), kindRead,
    payload, readPayload_cells hn, field_sender_coveredCells h1 h32, Nat.sub_add_cancel h1]

/-- Fewer cells than the notice has, as far as its header tells, are a broken notice (R109). -/
theorem decodeNotice_short (cells : List Bool) (hkind : 3 ≤ cells.length → field 0 3 cells < 6)
    (hcount : 24 ≤ cells.length → field 0 3 cells = 5 → field 20 4 cells ≤ 8)
    (hshort : 8 ≤ cells.length → (field 0 3 cells = 5 → 24 ≤ cells.length) →
      cells.length < 8 + payloadLength (field 0 3 cells) (field 20 4 cells) + 16) : decodeNotice cells = .broken := by
  rw [decodeNotice]
  by_cases h3 : cells.length < 3
  · rw [if_pos h3]
  rw [if_neg h3, if_neg (by have := hkind (by omega); omega)]
  by_cases h8 : cells.length < 8
  · rw [if_pos h8]
  rw [if_neg h8]
  by_cases h24 : field 0 3 cells = 5 ∧ cells.length < 24
  · rw [if_pos h24]
  rw [if_neg h24, if_neg (fun ⟨hk, hc⟩ => by have := hcount (by omega) hk; omega)]
  exact if_pos (hshort (by omega) fun hk => by omega)

theorem decodeNotice_cut (hn : HasCells n) {k : Nat} (hk : k < (n.cells sender).length) :
    decodeNotice ((n.cells sender).take k) = .broken := by
  have len : ((n.cells sender).take k).length = k := List.length_take_of_le (Nat.le_of_lt hk)
  have whole : (n.cells sender).length = (n.coveredCells sender).length + 16 := by
    rw [Notice.cells, List.length_append, length_crcCells]
  have kindRead : field 0 3 (n.cells sender) = n.kind :=
    field_kind_coveredCells n sender (crcCells (n.coveredCells sender))
  have coveredRead : _ = 8 + payloadLength n.kind (field 20 4 (n.cells sender)) :=
    length_coveredCells_eq_of_fields n sender (crcCells (n.coveredCells sender)) hn
  refine decodeNotice_short _ (fun h3 => ?_) (fun h24 h5 => ?_) (fun h8 h5 => ?_) <;> rw [len] at *
  · rw [field_take _ (by omega), kindRead]
    exact n.kind_lt
  · rw [field_take _ (by omega)] at h5 ⊢
    exact field_count_le_of_kind_eq_five n sender _ hn (kindRead ▸ h5)
  · rw [field_take _ (by omega), kindRead] at h5 ⊢
    have payload : payloadLength n.kind (field 20 4 ((n.cells sender).take k)) =
        payloadLength n.kind (field 20 4 (n.cells sender)) := by
      by_cases hfive : n.kind = 5
      · rw [field_take _ (by have := h5 hfive; omega)]
      · cases n <;> first | rfl | exact absurd rfl hfive
    omega

/-- Settles O14: the whole notice, the cut one, and the lengths of Table 5-1. -/
theorem noticeCellsRoundTrip : Obligations.NoticeCellsRoundTrip := by
  refine fun n sender => ⟨fun hn h1 h32 => ⟨decodeNotice_cells hn h1 h32, fun k => decodeNotice_cut hn⟩, ?_⟩
  have whole : (n.cells sender).length + 2 = 26 + n.payloadCells.length := by
    rw [Notice.cells, List.length_append, length_crcCells, length_coveredCells]
    omega
  rw [whole]
  cases n with
  | summary b ls =>
    rw [length_payloadCells _ ls.length (by rintro b ls h; cases h; rfl)]
    simp only [Notice.kind, payloadLength]
    omega
  | _ =>
    rw [length_payloadCells _ 0 (by rintro b ls h; cases h)]
    rfl

end Sys2Proof.Machine
end

section
/-! PROOFS. The entry to HALTED, and the commands it meets, or the completion of a leave meets (R56, R145, R169, R173,
R174). -/

namespace Sys2Proof.Machine

open Sys2Proof.Safety

variable {s t u : State} {i : Instr} {cause : HaltCause}

/-! ### What halts -/

theorem haltReport_running (h : s.station.running = true) :
    s.haltReport cause = State.portAtEntry s.hostJobRuns (s.halt cause) := if_pos h

theorem heldDominant_fault {held : Held} (hr : s.station.running = true) (hq : 512 ≤ s.line.timerAt held) :
    s.heldDominant held = s.haltReport .lineFault := (if_pos hr).trans (if_pos hq)

theorem heldDominant_counts {held : Held} (hr : s.station.running = true) (hq : s.line.timerAt held < 512) :
    s.heldDominant held = { s with line := ⟨s.line.phase, 0, s.line.timerAt held⟩ } :=
  (if_pos hr).trans (if_neg (Nat.not_le.2 hq))

theorem drivenCell_sending {n : Notice} {cell : Nat} (h : s.line.phase = .sending n) :
    s.drivenCell cell = n.sentCell s.settings.stationNumber cell := by rw [State.drivenCell, h]

theorem sentCell_of_le {n : Notice} {sender cell : Nat} (h : 2 ≤ cell) :
    n.sentCell sender cell = (n.cells sender)[cell - 2]? := by
  rw [Notice.sentCell, if_neg (by omega), if_neg (by omega)]

theorem judgeHeard_good {heard : Heard} {n : Nat} {notice : Notice} (hr : s.station.running = true)
    (hl : s.line.phase = .decoding) (hd : decodeNotice heard.cells = .good n notice) : s.judgeHeard heard =
      if n = s.settings.stationNumber then s.haltReport .stationConflict
      else if s.receiveRoom then s.judge heard.run (.judged (.accepted ⟨false, n, notice⟩))
      else s.judge heard.run (.judged (.overrun ⟨false, n, notice⟩)) := by
  rw [State.judgeHeard, if_pos ⟨hr, hl⟩, hd]

/-- A step that halts the station is its entry to HALTED, with the port's part in it (R145, R173). -/
theorem exec_halts (h : Halts s i cause) :
    exec i s = .next (State.portAtEntry s.hostJobRuns (s.halt cause)) := by
  obtain ⟨hr, ⟨elapsed, rfl, rfl, hq⟩ | ⟨quarters, rfl, rfl, hq⟩ | ⟨cell, n, rfl, rfl, hc, hl, hone⟩ |
    ⟨n, rest, run, rfl, rfl, hl, hn, hw, h1, h32⟩⟩ := h
  · exact congrArg Host.Outcome.next ((heldDominant_fault (held := .on elapsed) hr hq).trans (haltReport_running hr))
  · exact congrArg Host.Outcome.next ((heldDominant_fault (held := .anew quarters) hr hq).trans (haltReport_running hr))
  · have driven : s.drivenCell cell = some true := by rw [drivenCell_sending hl, sentCell_of_le (by omega), hone]
    exact congrArg Host.Outcome.next ((if_pos ⟨hc, driven⟩).trans (haltReport_running hr))
  · have decoded : decodeNotice (n.cells s.settings.stationNumber ++ rest) = .good s.settings.stationNumber n := by
      rw [decodeNotice_cells hn h1 h32, if_pos hw]
    exact congrArg Host.Outcome.next ((judgeHeard_good (heard := ⟨_, run⟩) hr hl decoded).trans
      ((if_pos rfl).trans (haltReport_running hr)))

theorem halt_host : (s.halt cause).host = s.host := by
  rw [halt_eq, offLine_eq]
  rfl

/-! ### O58 -/

/-- Settles O58: the entry to HALTED field by field, and a dominant period short of it. -/
theorem haltsDropEverything : Obligations.HaltsDropEverything := by
  refine ⟨fun s i cause h hw => ⟨(s.halt cause).channels, (s.halt cause).events, ?_, fun c => ?_, offLine_mask _ _ _ _,
    ?_⟩, fun s q hr hq => ⟨?_, fun elapsed he => ?_⟩⟩
  · rw [exec_halts h, portAtEntry_none _ (by rw [halt_host, hw])]
    exact congrArg Host.Outcome.next (offLine_eq _ _ _ _)
  · have record := offLine_chan (s := s) (fun st => st != .idle) .halted cause .halted c
    refine record.trans ?_
    by_cases hc : (s.chan c).state = .idle
    · rw [if_pos hc, if_neg (by simp [hc])]
    · rw [if_neg hc, if_pos (by simpa using hc)]
  · rw [halt_eq, offLine_flags]
    simp only [bne_iff_ne, BitVec.or_assoc, BitVec.or_comm (eventBit .halted)]
  · exact congrArg Host.Outcome.next (heldDominant_counts (held := .anew q) hr hq)
  · subst he
    exact congrArg Host.Outcome.next (heldDominant_counts (held := .on elapsed) hr hq)

/-! ### O59 -/

/-- The events of an entry to UNJOINED or HALTED: CHANNEL_OUTCOME if a channel is dropped, and its own (R71, R143, R145). -/
theorem offLine_events_raised (q : ChanState → Bool) (st : StationState) (e : Event) :
    (s.offLine q st cause e).events =
      ((s.raiseIf ((List.finRange 8).any fun c => q (s.chan c).state) .channelOutcome).raise e).events := by
  unfold State.offLine State.dropChannels State.raiseIf
  dsimp only
  split <;> rfl

/-- The entry does not depend on the commands of the port, only on the response in progress (R71, R179). -/
theorem offLine_host (q : ChanState → Bool) (st : StationState) (e : Event) (a b : Option Taken) :
    State.offLine q st cause e { s with host := { s.host with current := a, held := b } } =
      { s.offLine q st cause e with host := { s.host with current := a, held := b } } := by
  have channels : (State.offLine q st cause e { s with host := { s.host with current := a, held := b } }).channels =
      (s.offLine q st cause e).channels := vector_ext_get fun c =>
    (offLine_chan q st cause e c).trans (offLine_chan (s := s) q st cause e c).symm
  have raised : ∀ flag : Bool,
      ((State.raiseIf flag .channelOutcome { s with host := { s.host with current := a, held := b } }).raise e).events =
        ((s.raiseIf flag .channelOutcome).raise e).events := fun flag => by cases flag <;> rfl
  have events : (State.offLine q st cause e { s with host := { s.host with current := a, held := b } }).events =
      (s.offLine q st cause e).events := by
    rw [offLine_events_raised, offLine_events_raised (s := s)]
    exact raised _
  rw [offLine_eq, channels, events, offLine_eq (s := s)]
  rfl

theorem offLine_port (q : ChanState → Bool) (st : StationState) (e : Event) :
    (s.offLine q st cause e).host = s.host := by
  rw [offLine_eq]
  rfl

/-- An entry met by no command gives the entry itself, whatever the port holds. -/
theorem offLine_of_quiet_port {q : ChanState → Bool} {st : StationState} {e : Event} {b : Bool}
    (hu : State.portAtEntry b (State.offLine q st cause e { s with
      host := { s.host with current := none, held := none } }) = u) :
    s.offLine q st cause e = { u with host := s.host } := by
  have quiet : ({ s.host with current := none, held := none } : HostPort).waitingCommand = none :=
    ite_self _
  rw [portAtEntry_none _ (by rw [offLine_port]; exact quiet), offLine_host] at hu
  subst hu
  rw [← offLine_port (s := s) (cause := cause) q st e]

/-- The state entered by a halt or by the completion of a leave, with the port's part still to come. -/
theorem exec_entry (h : (∃ cause, Halts s i cause) ∨ CompletesLeave s i)
    (hu : exec i { s with host := { s.host with current := none, held := none } } = .next u) :
    exec i s = .next (State.portAtEntry s.hostJobRuns { u with host := s.host }) ∧ u.station.online = false ∧
      u.settings = s.settings := by
  have parts : ∀ {q st cause e}, st.online = false → s.offLine q st cause e = { u with host := s.host } →
      u.station.online = false ∧ u.settings = s.settings := fun {q st cause e} hst hE => by
    have entered := (offLine_eq (s := s) q st cause e).symm.trans hE
    have station : st = u.station := congrArg State.station entered
    have settings := congrArg State.settings entered
    exact ⟨station ▸ hst, settings.symm⟩
  rcases h with ⟨cause, h⟩ | ⟨rfl, n, hj⟩
  · have alone := Host.Outcome.next.inj ((exec_halts (s := { s with
      host := { s.host with current := none, held := none } }) (by exact h)).symm.trans hu)
    have entered : s.halt cause = { u with host := s.host } := offLine_of_quiet_port alone
    exact ⟨entered ▸ exec_halts h, parts rfl entered⟩
  · have alone : State.portAtEntry false (State.leaveDone { s with
        host := { s.host with current := none, held := none } }) = u :=
      (finishEvaluate_ownLeave (s := { s with host := { s.host with current := none, held := none } })
        (by exact hj)).symm.trans (Host.Outcome.next.inj hu)
    have entered : s.leaveDone = { u with host := s.host } := offLine_of_quiet_port alone
    have runs : s.hostJobRuns = false := by rw [State.hostJobRuns, hj]
    refine ⟨congrArg Host.Outcome.next ?_, parts rfl entered⟩
    rw [runs, ← entered]
    exact finishEvaluate_ownLeave hj

theorem portAtEntry_read {tk : Taken} (b : Bool) (hw : s.host.waitingCommand = some tk)
    (ha : tk.cmd.answeredAtEntry = false) : s.portAtEntry b = s := by
  rw [State.portAtEntry, hw]
  exact if_neg (by rw [ha]; decide)

theorem portAtEntry_answers {tk : Taken} (b : Bool) (hh : s.host.held = none) (hr : s.host.response = none)
    (hc : s.host.current = some tk) (ha : tk.cmd.answeredAtEntry = true) :
    s.portAtEntry b = s.answer tk.cmd (if b then .wrongState else s.portResult tk) := by
  have waits : s.host.waitingCommand = some tk := by
    rw [HostPort.waitingCommand, hh, hr, hc]
    rfl
  rw [State.portAtEntry, waits]
  exact (if_pos ha).trans (if_neg (by rw [hh]; decide))

theorem portAtEntry_held {tk : Taken} (b : Bool) (hh : s.host.held = some tk) (ha : tk.cmd.answeredAtEntry = true) :
    s.portAtEntry b = s.releaseHeld := by
  have waits : s.host.waitingCommand = some tk := by rw [HostPort.waitingCommand, hh]
  rw [State.portAtEntry, waits]
  exact (if_pos ha).trans (if_pos (by rw [hh]; rfl))

theorem answer_plain {cmd : HostCmd} {r : ResultCode} (h : cmd.fieldCount = 0) :
    s.answer cmd r = s.answerWith ⟨.plain, [], r⟩ := by
  unfold State.answer HostCmd.respond
  rw [h]
  split <;> rfl

theorem requestCheck_offline {c m st l : Byte} (h : s.station.online = false) : s.requestCheck c m st l =
    if badRequest c m st l then .badParameter
    else if s.settings.weight.get (chanOf c.toNat) = 0 then .channelDisabled else .wrongState := by
  by_cases hb : badRequest c m st l
  · rw [requestCheck_bad hb, if_pos hb]
  · rw [requestCheck_good hb, if_neg hb, h]
    rfl

/-- Settles O59: the entry as with no command, and the port's part by what waits. -/
theorem waitingCommandsMeetAHaltOrALeave : Obligations.WaitingCommandsMeetAHaltOrALeave := by
  intro s u i h hu
  obtain ⟨ends, offline, settings⟩ := exec_entry h hu
  rw [ends]
  refine ⟨fun hw => ?_, fun tk hw ha => ?_, fun c m st l b hh hr hc => ?_, fun c b hh hr hc => ?_,
    fun tk hh ha => ⟨fun hq => ?_, fun cmd b hc hr => ?_⟩⟩
  · rw [portAtEntry_none _ (by exact hw)]
  · rw [portAtEntry_read _ (by exact hw) ha]
  · rw [portAtEntry_answers _ (by exact hh) (by exact hr) (by exact hc) rfl, answer_plain rfl]
    refine congrArg (fun r => Host.Outcome.next (State.answerWith ⟨.plain, [], r⟩ { u with host := s.host })) ?_
    refine congrArg (fun r => if s.hostJobRuns then ResultCode.wrongState else r) ?_
    exact (requestCheck_offline (by exact offline)).trans (by rw [← settings])
  · rw [portAtEntry_answers _ (by exact hh) (by exact hr) (by exact hc) rfl, answer_plain rfl]
    refine congrArg (fun r => Host.Outcome.next (State.answerWith ⟨.plain, [], r⟩ { u with host := s.host })) ?_
    refine congrArg (fun r => if s.hostJobRuns then ResultCode.wrongState else r) ?_
    exact releaseCheck_offline (by exact offline)
  · rw [portAtEntry_held _ (by exact hh) ha, releaseHeld_idle (by exact hq)]
  · rw [portAtEntry_held _ (by exact hh) ha, releaseHeld_latched (by exact hc) (by exact hr)]

end Sys2Proof.Machine
end

section
/-! PROOFS. The starts of notices (R78, R83, R100, R101). -/

namespace Sys2Proof.Machine

open Sys2Proof.Safety

variable {s t : State}

/-! ### The gap before a start -/

theorem startGap_eq (l : LineInterface) :
    l.startGap = if l.phase = .skipping ∧ Config.malformedHeaderWaits = true then 40 else 36 := rfl

theorem startGap_idle {l : LineInterface} (h : l.phase = .idle) : l.startGap = 36 := by
  rw [startGap_eq, h]
  exact if_neg (by simp)

theorem startGap_skipping {l : LineInterface} (h : l.phase = .skipping) :
    l.startGap = if Config.malformedHeaderWaits = true then 40 else 36 := by
  rw [startGap_eq, h]
  simp

theorem startGap_between (l : LineInterface) : 36 ≤ l.startGap ∧ l.startGap ≤ 40 := by
  rw [startGap_eq]
  split <;> omega

theorem startGap_le {l : LineInterface} {gap : Nat} (h : 40 ≤ gap ∨ (36 ≤ gap ∧ l.phase = .idle)) : l.startGap ≤ gap := by
  rcases h with h | ⟨h, hp⟩
  · exact Nat.le_trans (startGap_between l).2 h
  · rwa [startGap_idle hp]

/-! ### Who begins, who decodes -/

theorem offers_of {i : TxItem} {rest : List TxItem} (hq : s.txQueue = i :: rest) (hs : s.station.sends = true) :
    s.offers = true := by
  rw [State.offers, hq, hs]
  rfl

theorem offers_not (h : s.txQueue = [] ∨ s.station.sends = false) : s.offers = false := by
  rw [State.offers]
  rcases h with h | h <;> rw [h]
  · exact Bool.and_false _
  · exact Bool.false_and _

theorem beginAttempt_eq {i : TxItem} {rest : List TxItem} (hq : s.txQueue = i :: rest) (gap : Nat) :
    s.beginAttempt gap = { s with
      txQueue := { i with inAttempt := true } :: rest
      line := ⟨.sending (s.noticeOf i.body), gap, 0⟩ } := by rw [State.beginAttempt, hq]

theorem startAttempt_own {elapsed : Nat} (ho : s.offers = true) (hi : s.line.isIdle = true) :
    s.startAttempt .own elapsed =
      if 40 ≤ s.line.gapCount + elapsed then s.beginAttempt (s.line.gapCount + elapsed) else s := by
  rw [State.startAttempt, ho, hi]
  simp only [true_and]
  rfl

theorem startAttempt_joining {elapsed : Nat} (ho : s.offers = true) (hi : s.line.isIdle = true) :
    s.startAttempt .joining elapsed =
      if s.line.startGap ≤ s.line.gapCount + elapsed then s.beginAttempt 0 else s := by
  rw [State.startAttempt, State.joinStart, ho, hi]
  simp only [true_and]

theorem fallingEdge_idle {elapsed : Nat} (hr : s.station.running = true) (hi : s.line.isIdle = true) :
    s.fallingEdge elapsed =
      if s.line.startGap ≤ s.line.gapCount + elapsed then
        if s.offers then s.beginAttempt 0 else { s with line := ⟨.decoding, 0, 0⟩ }
      else { s with line := ⟨s.line.phase, 0, 0⟩ } := if_pos ⟨hr, hi⟩

/-! ### The notice of a SUMMARY -/

/-- What a SUMMARY lists of a channel: its window and weight, HELD or RELEASING (R78). -/
def State.listedEntry (s : State) (c : Chan) : Option Listed :=
  if (s.chan c).state = .held ∨ (s.chan c).state = .releasing then
    (s.chan c).window.map fun w => ⟨c, w, s.settings.weight.get c⟩
  else none

theorem summaryEntries_eq : s.summaryEntries = (List.finRange 8).filterMap s.listedEntry := by
  unfold State.summaryEntries
  refine congrArg (fun f => (List.finRange 8).filterMap f) (funext fun c => ?_)
  unfold State.listedEntry
  split
  · next h hw => rw [h, hw]; rfl
  · next h hw => rw [h, hw]; rfl
  · next hh hr =>
    split
    · next h =>
      cases hw : (s.chan c).window with
      | none => rfl
      | some w => exact (h.elim (fun h => hh w h hw) fun h => hr w h hw).elim
    · rfl

theorem listedEntry_eq_some {c : Chan} {l : Listed} : s.listedEntry c = some l ↔
    l.chan = c ∧ ((s.chan c).state = .held ∨ (s.chan c).state = .releasing) ∧ (s.chan c).window = some l.win ∧
      l.weight = s.settings.weight.get c := by
  unfold State.listedEntry
  split
  · next h =>
    rw [Option.map_eq_some_iff]
    constructor
    · rintro ⟨w, hw, rfl⟩
      exact ⟨rfl, h, hw, rfl⟩
    · rintro ⟨rfl, -, hw, hwt⟩
      exact ⟨l.win, hw, by rw [← hwt]⟩
  · next h => exact ⟨fun hn => (by cases hn), fun hh => absurd hh.2.1 h⟩

theorem mem_summaryEntries {l : Listed} : l ∈ s.summaryEntries ↔
    ((s.chan l.chan).state = .held ∨ (s.chan l.chan).state = .releasing) ∧ (s.chan l.chan).window = some l.win ∧
      l.weight = s.settings.weight.get l.chan := by
  rw [summaryEntries_eq, List.mem_filterMap]
  simp only [listedEntry_eq_some]
  constructor
  · rintro ⟨c, -, rfl, h⟩
    exact h
  · exact fun h => ⟨l.chan, List.mem_finRange _, rfl, h⟩

theorem pairwise_summaryEntries : s.summaryEntries.Pairwise fun k l => k.chan < l.chan := by
  rw [summaryEntries_eq, List.pairwise_filterMap]
  refine (List.pairwise_lt_finRange 8).imp fun {a b} hab k hk l hl => ?_
  rw [(listedEntry_eq_some.1 hk).1, (listedEntry_eq_some.1 hl).1]
  exact hab

/-! ### O52 -/

/-- Settles O52: a station with a notice on offer, one that only receives, and the notices sent. -/
theorem startEdgesBeginNotices : Obligations.StartEdgesBeginNotices := by
  refine ⟨fun s i rest elapsed gap hline hq hs hgap begun hb => ?_, fun s elapsed gap hline hr hgap => ?_,
    fun s => ⟨fun _ => rfl, rfl, fun _ => rfl, fun _ _ _ => rfl, rfl, s.summaryEntries, rfl, pairwise_summaryEntries,
      fun l => mem_summaryEntries⟩⟩
  · subst hgap
    have idle := (isIdle_iff s.line).2 hline
    have offers := offers_of hq hs
    have begins : ∀ g, s.beginAttempt g = begun g := fun g => (beginAttempt_eq hq g).trans (hb g).symm
    have own := startAttempt_own (elapsed := elapsed) offers idle
    have joining := startAttempt_joining (elapsed := elapsed) offers idle
    have edge := fallingEdge_idle (elapsed := elapsed) (StationState.running_of_sends hs) idle
    rw [if_pos offers, begins] at edge
    rw [begins] at own joining
    refine ⟨fun h => ?_, fun h => ?_, fun h => ⟨?_, ?_⟩, fun h => ?_, fun h1 h2 hp => ⟨?_, ?_⟩⟩
    · exact congrArg Host.Outcome.next (own.trans (if_pos h))
    · exact congrArg Host.Outcome.next (own.trans (if_neg (by omega)))
    · exact congrArg Host.Outcome.next (joining.trans (if_pos (startGap_le h)))
    · exact congrArg Host.Outcome.next (edge.trans (if_pos (startGap_le h)))
    · have := (startGap_between s.line).1
      exact congrArg Host.Outcome.next (joining.trans (if_neg (by omega)))
    · refine congrArg Host.Outcome.next (joining.trans ?_)
      rw [startGap_skipping hp]
      split
      · exact if_neg (by omega)
      · rfl
    · refine congrArg Host.Outcome.next (edge.trans ?_)
      rw [startGap_skipping hp]
      split
      · exact (if_neg (by omega)).trans (by rw [hp])
      · rfl
  · subst hgap
    have idle := (isIdle_iff s.line).2 hline
    have edge := fallingEdge_idle (elapsed := elapsed) hr idle
    refine ⟨fun h => ?_, fun hn => ⟨fun h => ?_, fun h1 h2 hp => ?_⟩⟩
    · have := (startGap_between s.line).1
      exact congrArg Host.Outcome.next (edge.trans (if_neg (by omega)))
    · rw [if_neg (show ¬ s.offers = true by rw [offers_not hn]; decide)] at edge
      exact congrArg Host.Outcome.next (edge.trans (if_pos (startGap_le h)))
    · rw [if_neg (show ¬ s.offers = true by rw [offers_not hn]; decide)] at edge
      refine congrArg Host.Outcome.next (edge.trans ?_)
      rw [startGap_skipping hp, hp]
      split
      · exact if_neg (by omega)
      · rfl

end Sys2Proof.Machine
end

section
/-! PROOFS. The settlement of an undelivered attempt, by the rows of Table 5-3 (R43, R44, R59, R85, R87, R88). -/

namespace Sys2Proof.Machine

open Sys2Proof.Safety

variable {s t : State} {before after : List TxItem} {i : TxItem}

/-! ### The queue with one item in an attempt -/

theorem attemptItem_split (hi : i.inAttempt = true) (ho : ∀ j ∈ before ++ after, j.inAttempt = false) :
    attemptItem (before ++ i :: after) = some i := by
  have none : before.find? (fun j => j.inAttempt) = .none :=
    List.find?_eq_none.2 fun j hj => by simp [ho j (List.mem_append_left _ hj)]
  rw [attemptItem, List.find?_append, none, Option.none_or, List.find?_cons_of_pos hi]

theorem dropAttempt_split (hi : i.inAttempt = true) (ho : ∀ j ∈ before ++ after, j.inAttempt = false) :
    dropAttempt (before ++ i :: after) = before ++ after := by
  rw [dropAttempt, List.filter_append, List.filter_cons_of_neg (by simp [hi]), ← List.filter_append]
  exact List.filter_eq_self.2 fun j hj => by simp [ho j hj]

theorem keepAttempt_split (k : Nat) (hi : i.inAttempt = true) (ho : ∀ j ∈ before ++ after, j.inAttempt = false) :
    keepAttempt k (before ++ i :: after) = before ++ { i with count := k, inAttempt := false } :: after := by
  have same : ∀ l : List TxItem, (∀ j ∈ l, j.inAttempt = false) →
      l.map (fun j => if j.inAttempt then { j with count := k, inAttempt := false } else j) = l := fun l hl =>
    (List.map_congr_left (g := id) fun j hj => by simp [hl j hj]).trans (List.map_id l)
  rw [keepAttempt, List.map_append, List.map_cons, same before fun j hj => ho j (List.mem_append_left _ hj),
    same after fun j hj => ho j (List.mem_append_right _ hj), if_pos hi]

/-! ### Settlement -/

theorem claimReleased_claim {b : TxBody} {c : Chan} {w : Window} {wt : Nat} (hb : b = .claim c w wt)
    (hp : (s.chan c).releasePending = true) : s.claimReleased b = some c := by
  subst hb
  exact if_pos hp

theorem claimReleased_none {b : TxBody} (h : ∀ c w wt, b = .claim c w wt → (s.chan c).releasePending = false) :
    s.claimReleased b = none := by
  cases b with
  | claim c w wt => exact if_neg (by rw [h c w wt rfl]; decide)
  | _ => rfl

theorem settleUndelivered_released {b : TxBody} {c : Chan} (k : Nat) (h : s.claimReleased b = some c) :
    s.settleUndelivered b k = State.askWithdrawal c { s with txQueue := dropAttempt s.txQueue } := by
  rw [State.settleUndelivered, h]

theorem settleUndelivered_unreleased {b : TxBody} (k : Nat) (h : s.claimReleased b = none) :
    s.settleUndelivered b k =
      if s.station = .leaving ∧ b.endsAtLeave then { s with txQueue := dropAttempt s.txQueue }
      else { s with txQueue := keepAttempt k s.txQueue } := by
  rw [State.settleUndelivered, h]

/-- A broken attempt that is settled as an undelivered one with its count raised (R85). -/
theorem settleBroken_settled (ha : attemptItem s.txQueue = some i)
    (h : (s.claimReleased i.body).isSome ∨ (s.station = .leaving ∧ i.body.endsAtLeave) ∨
      (!i.body.isSync ∧ i.count + 1 < 4)) : s.settleBroken = s.settleUndelivered i.body (i.count + 1) := by
  rw [State.settleBroken, ha]
  exact if_pos h

/-- A broken attempt whose item leaves the queue: a SYNC, or a notice abandoned after its fourth attempt (R85, R87). -/
theorem settleBroken_removed (ha : attemptItem s.txQueue = some i)
    (h : ¬ ((s.claimReleased i.body).isSome ∨ (s.station = .leaving ∧ i.body.endsAtLeave) ∨
      (!i.body.isSync ∧ i.count + 1 < 4))) : s.settleBroken =
        if i.body.isSync then State.holdWithoutSync { s with txQueue := dropAttempt s.txQueue }
        else State.placeAgain i.body { s with txQueue := dropAttempt s.txQueue } := by
  rw [State.settleBroken, ha]
  exact if_neg h

/-! ### Withdrawals asked for, and a hold that has lost its SYNC -/

theorem askWithdrawal_busy {c : Chan} (h : s.unit.job ≠ none) :
    s.askWithdrawal c = { s with unit := { s.unit with withdrawals := s.unit.withdrawals ++ [c] } } :=
  if_neg (by rwa [Option.isNone_iff_eq_none])

theorem askWithdrawal_free {c : Chan} (h : s.unit.job = none) : s.askWithdrawal c = s.withdraw c :=
  if_pos (Option.isNone_iff_eq_none.2 h)

theorem withdraw_not {c : Chan} (h : (s.chan c).state ≠ .claiming) : s.withdraw c = s := if_neg h

theorem withdraw_claiming {c : Chan} (h : (s.chan c).state = .claiming) : s.withdraw c =
    State.endChannel c .withdrawn { s with book := s.book.dropKey s.settings.stationNumber c } := if_pos h

theorem holdWithoutSync_notHeld (h : s.timer.hold = false) : s.holdWithoutSync = s := by
  refine (if_neg ?_).trans (if_neg ?_)
  · rintro ⟨-, hh, -⟩
    rw [h] at hh
    cases hh
  · rintro ⟨hh, -⟩
    rw [h] at hh
    cases hh

theorem holdWithoutSync_online (h : s.timer.hold = true) (ho : s.station.online = true) :
    s.holdWithoutSync = { s with txQueue := placeSync ((s.timer.frame + 1) % 256) s.txQueue } := by
  refine (if_neg ?_).trans (offerSync_hold h ho)
  rintro ⟨hs, -, -⟩
  rw [hs] at ho
  cases ho

theorem present_false {q : TxBody → Bool} {l : List TxItem} (h : ∀ j ∈ l, q j.body = false) : present q l = false :=
  List.any_eq_false.2 fun j hj => by simp [h j hj]

theorem placeSync_absent {f : Nat} {l : List TxItem} (h : ∀ j ∈ l, j.body.isSync = false) :
    placeSync f l = ⟨.sync f, 0, false⟩ :: l := if_neg (by rw [present_false h]; decide)

theorem placeLeave_absent {l : List TxItem} (h : ∀ j ∈ l, j.body.isLeave = false) :
    placeLeave l = l ++ [⟨.leave, 0, false⟩] := if_neg (by rw [present_false h]; decide)

/-- In LEAVING a hold with no SYNC left is ended by the next frame (R44). -/
theorem holdWithoutSync_frame (h : s.timer.hold = true) (hs : s.station = .leaving)
    (hq : ∀ j ∈ s.txQueue, j.body.isSync = false) : s.holdWithoutSync = s.ownFrame :=
  if_pos ⟨hs, h, by rw [present_false hq]; rfl⟩

/-! ### O53 -/

/-- A SYNC is no CLAIM and stays at a leave (R88). -/
theorem isSync_kind {b : TxBody} (h : b.isSync = true) : s.claimReleased b = none ∧ b.endsAtLeave = false := by
  cases b <;> first | exact ⟨rfl, rfl⟩ | cases h

/-- Settles O53: the rows of Table 5-3 in turn. -/
theorem attemptsAreSettledByTheTable : Obligations.AttemptsAreSettledByTheTable := by
  intro s before after i hq hi ho removed hrem
  have item : attemptItem s.txQueue = some i := by rw [hq, attemptItem_split hi ho]
  have dropped : ({ s with txQueue := dropAttempt s.txQueue } : State) = removed := by
    rw [hrem, hq, dropAttempt_split hi ho]
  have kept : ∀ k, keepAttempt k s.txQueue = before ++ { i with count := k, inAttempt := false } :: after := fun k => by
    rw [hq, keepAttempt_split k hi ho]
  have queue : removed.txQueue = before ++ after := by rw [hrem]
  have timer : removed.timer = s.timer := by rw [hrem]
  have station : removed.station = s.station := by rw [hrem]
  refine ⟨fun c w wt k hb hp => ?_, fun hn => ⟨fun hs he => ?_, fun hs => ?_⟩, fun hsync hnone => ⟨fun hh => ?_,
    fun hh ho => ?_, fun hh hs => ?_⟩⟩
  · have released := claimReleased_claim hb hp
    have unit : removed.unit = s.unit := by rw [hrem]
    have chan : removed.chan c = s.chan c := by rw [hrem]; rfl
    refine ⟨?_, ?_, fun hj => ?_, fun hj hc => ?_, fun hj hc => ?_⟩
    · rw [settleUndelivered_released k released, dropped]
    · rw [settleBroken_settled item (.inl (by rw [released]; rfl)), settleUndelivered_released _ released, dropped]
    · rw [askWithdrawal_busy (by rwa [unit]), unit]
    · rw [askWithdrawal_free (by rwa [unit]), withdraw_not (by rwa [chan])]
    · rw [askWithdrawal_free (by rwa [unit]), withdraw_claiming (by rwa [chan]), hrem]
      rfl
  · have settles : ∀ k, s.settleUndelivered i.body k = removed := fun k => by
      rw [settleUndelivered_unreleased k (claimReleased_none hn), if_pos ⟨hs, he⟩, dropped]
    exact ⟨settles, (settleBroken_settled item (.inr (.inl ⟨hs, he⟩))).trans (settles _)⟩
  · have stays : ¬ (s.station = .leaving ∧ i.body.endsAtLeave = true) := fun ⟨hl, he⟩ =>
      hs.elim (fun h => h hl) fun h => by rw [h] at he; cases he
    have settles : ∀ k, s.settleUndelivered i.body k =
        { s with txQueue := before ++ { i with count := k, inAttempt := false } :: after } := fun k => by
      rw [settleUndelivered_unreleased k (claimReleased_none hn), if_neg stays, kept]
    refine ⟨settles, fun hsync hc => ?_, fun hsync hc => ?_⟩
    · rw [settleBroken_settled item (.inr (.inr ⟨by rw [hsync]; rfl, by omega⟩)), settles]
    · have abandoned : s.settleBroken = removed.placeAgain i.body := by
        rw [settleBroken_removed item ?_, hsync, dropped]
        · rfl
        · rintro (h | h | ⟨-, h⟩)
          · rw [claimReleased_none hn] at h
            cases h
          · exact stays h
          · omega
      refine ⟨fun c w wt hb => ?_, fun c hb => ?_, fun hb hl => ?_, fun hb => ?_⟩
      · rw [abandoned, hb, hrem]
        rfl
      · rw [abandoned, hb, hrem]
        rfl
      · rw [abandoned, hb, hrem]
        exact congrArg (fun q => ({ s with txQueue := q } : State)) (placeLeave_absent hl)
      · rw [abandoned]
        rcases hb with hb | hb <;> rw [hb] <;> rfl
  all_goals
    obtain ⟨noClaim, stays⟩ := isSync_kind (s := s) hsync
    have lost : s.settleBroken = removed.holdWithoutSync := by
      rw [settleBroken_removed item (by simp [noClaim, stays, hsync]), if_pos hsync, dropped]
  · rw [lost, holdWithoutSync_notHeld (by rwa [timer])]
  · rw [lost, holdWithoutSync_online (by rwa [timer]) (by rwa [station]), queue, placeSync_absent hnone, timer, hrem]
  · rw [lost, holdWithoutSync_frame (by rwa [timer]) (by rwa [station]) (by rwa [queue]), State.ownFrame, timer]

end Sys2Proof.Machine
end

section
/-! PROOFS. The sender's monitor and the breaks (R102, R103, R105, R109). -/

namespace Sys2Proof.Machine

open Sys2Proof.Safety

variable {s t : State} {n : Notice}

theorem loseArbitration_lost {cell : Nat} {i : TxItem} (h2 : 2 ≤ cell) (h9 : cell ≤ 9) (hd : s.drivenCell cell = some true)
    (ha : attemptItem s.txQueue = some i) :
    s.loseArbitration cell = State.settleUndelivered i.body i.count { s with line := ⟨.decoding, 0, 2⟩ } := by
  refine (if_pos ⟨h2, h9, hd⟩).trans ?_
  dsimp only
  rw [ha]
  rfl

theorem driverFails_eq {found : Mismatch} (hd : s.drivenCell found.cell = some false)
    (hf : found.returned.isSome = true ∨ found.cell = 1) :
    s.driverFails found = State.settleBroken { s with line := s.line.afterDriverFault found.returned } :=
  if_pos ⟨hd, hf⟩

theorem breakNotice_own {k : BreakKind} (hb : s.line.phase.breaks k = true) (ho : s.line.phase.isOwn = true) :
    s.breakNotice k = State.settleBroken { s with line := LineInterface.afterBreak k } :=
  (if_pos hb).trans (if_pos ho)

theorem breakNotice_heard {k : BreakKind} (hb : s.line.phase.breaks k = true) (ho : s.line.phase.isOwn = false) :
    s.breakNotice k = { s with line := LineInterface.afterBreak k } :=
  (if_pos hb).trans (if_neg (by rw [ho]; decide))

theorem breakNotice_not {k : BreakKind} (hb : s.line.phase.breaks k = false) : s.breakNotice k = s :=
  if_neg (by rw [hb]; decide)

/-- In an attempt and while a notice comes in, either kind of period breaks it (R109). -/
theorem breaks_sending (k : BreakKind) (h : s.line.phase = .sending n) :
    s.line.phase.breaks k = true ∧ s.line.phase.isOwn = true := by rw [h]; exact ⟨rfl, rfl⟩

theorem breaks_receiving (k : BreakKind) (h : s.line.phase = .decoding ∨ ∃ v, s.line.phase = .judged v) :
    s.line.phase.breaks k = true ∧ s.line.phase.isOwn = false := by
  rcases h with h | ⟨v, h⟩ <;> rw [h] <;> exact ⟨rfl, rfl⟩

/-- Settles O54: an attempt, an own echo cell, and a notice that comes in. -/
theorem monitorAndBreaksEndAttempts : Obligations.MonitorAndBreaksEndAttempts := by
  refine ⟨fun s n i hl ha => ⟨fun cell h2 h9 hc => ?_, fun cell q hc => ?_, ?_, ?_, ?_⟩, fun s n r hl => ⟨?_, ?_⟩,
    fun s hl => ⟨?_, ?_⟩⟩
  · have driven : s.drivenCell cell = some true := by rw [drivenCell_sending hl, sentCell_of_le h2, hc]
    exact congrArg Host.Outcome.next (loseArbitration_lost h2 h9 driven ha)
  · have driven : s.drivenCell cell = some false := by
      rw [drivenCell_sending hl]
      rcases hc with rfl | ⟨h2, hc⟩
      · rfl
      · rw [sentCell_of_le h2, hc]
    exact congrArg Host.Outcome.next (driverFails_eq (found := ⟨cell, some q⟩) driven (.inl rfl))
  · have driven : s.drivenCell 1 = some false := by
      rw [drivenCell_sending hl]
      rfl
    exact congrArg Host.Outcome.next (driverFails_eq (found := ⟨1, none⟩) driven (.inr rfl))
  · exact congrArg Host.Outcome.next (breakNotice_own (breaks_sending .dominant hl).1 (breaks_sending .dominant hl).2)
  · exact congrArg Host.Outcome.next (breakNotice_own (breaks_sending .recessive hl).1 (breaks_sending .recessive hl).2)
  · exact congrArg Host.Outcome.next (breakNotice_own (k := .dominant) (by rw [hl]; rfl) (by rw [hl]; rfl))
  · exact congrArg Host.Outcome.next (breakNotice_not (k := .recessive) (by rw [hl]; rfl))
  · exact congrArg Host.Outcome.next (breakNotice_heard (breaks_receiving .dominant hl).1 (breaks_receiving .dominant hl).2)
  · exact congrArg Host.Outcome.next
      (breakNotice_heard (breaks_receiving .recessive hl).1 (breaks_receiving .recessive hl).2)

/-! ### The judgment of a heard notice -/

/-- A judgment of the decoded cells that is no good notice and no break (R92, Table 5-5). -/
theorem judgeHeard_judged {heard : Heard} {phase : LinePhase} {d : Decoded} (hr : s.station.running = true)
    (hl : s.line.phase = .decoding) (hd : decodeNotice heard.cells = d)
    (hp : (d = .malformedHeader ∧ phase = .skipping) ∨ (d = .crcFailure ∧ phase = .judged .crcFailure) ∨
      (d = .malformedFields ∧ phase = .judged .malformed)) : s.judgeHeard heard = s.judge heard.run phase := by
  rw [State.judgeHeard, if_pos ⟨hr, hl⟩, hd]
  rcases hp with ⟨rfl, rfl⟩ | ⟨rfl, rfl⟩ | ⟨rfl, rfl⟩ <;> rfl

theorem judgeHeard_broken {heard : Heard} (hr : s.station.running = true) (hl : s.line.phase = .decoding)
    (hd : decodeNotice heard.cells = .broken) :
    s.judgeHeard heard = if passesBreak heard.run then s.judge heard.run .idle else s := by
  rw [State.judgeHeard, if_pos ⟨hr, hl⟩, hd]

/-- A header that names no kind, or more listed entries than a SUMMARY has (R79). -/
theorem decodeNotice_malformedHeader {cells : List Bool}
    (h : (3 ≤ cells.length ∧ 6 ≤ field 0 3 cells) ∨
      (24 ≤ cells.length ∧ field 0 3 cells = 5 ∧ 8 < field 20 4 cells)) : decodeNotice cells = .malformedHeader := by
  rw [decodeNotice]
  rcases h with ⟨h3, h6⟩ | ⟨h24, h5, h8⟩
  · rw [if_neg (by omega), if_pos h6]
  · rw [if_neg (by omega), if_neg (by omega), if_neg (by omega), if_neg (by omega), if_pos ⟨h5, h8⟩]

/-- The counts of the line after a judgment: the period it is in goes on (R100, R109, R110). -/
theorem judge_eq {run : LineRun} {gap dom : Nat} (phase : LinePhase)
    (h : (run = .recessive gap ∧ dom = 0) ∨ (run = .dominant dom ∧ gap = 0)) :
    s.judge run phase = { s with line := ⟨phase, gap, dom⟩ } := by
  rcases h with ⟨rfl, rfl⟩ | ⟨rfl, rfl⟩ <;> rfl

theorem passesBreak_eq {run : LineRun} {gap dom : Nat}
    (h : (run = .recessive gap ∧ dom = 0) ∨ (run = .dominant dom ∧ gap = 0)) :
    passesBreak run = decide (8 ≤ gap + dom) := by
  rcases h with ⟨rfl, rfl⟩ | ⟨rfl, rfl⟩ <;> rfl

theorem receiveRoom_iff : s.receiveRoom = true ↔ s.rxQueue.length < 4 := decide_eq_true_iff

/-- Settles O55: the rows of Table 5-5 in turn. -/
theorem heardNoticesAreJudgedRowByRow : Obligations.HeardNoticesAreJudgedRowByRow := by
  intro s run gap dom hr hl hrun
  refine ⟨fun n sender k hn h1 h32 hk => ⟨fun h8 => ?_, fun h8 => ?_⟩, fun cells hc => ?_,
    fun n sender crc rest hn h1 h32 hlen => ⟨_, rfl, fun hne => ?_, fun heq hw => ?_, fun heq hw hs => ⟨fun hroom => ?_,
      fun hroom => ?_⟩⟩⟩
  · refine congrArg Host.Outcome.next ((judgeHeard_broken hr hl (decodeNotice_cut hn hk)).trans ?_)
    dsimp only
    rw [passesBreak_eq hrun, if_pos (decide_eq_true h8), judge_eq .idle hrun]
  · refine congrArg Host.Outcome.next ((judgeHeard_broken hr hl (decodeNotice_cut hn hk)).trans ?_)
    dsimp only
    rw [passesBreak_eq hrun, if_neg (by simpa using h8)]
  · exact congrArg Host.Outcome.next ((judgeHeard_judged (heard := ⟨cells, run⟩) hr hl (decodeNotice_malformedHeader hc)
      (.inl ⟨rfl, rfl⟩)).trans (judge_eq .skipping hrun))
  · have decoded := decodeNotice_of_crc_ne n sender crc rest hn hlen hne
    rw [← List.append_assoc] at decoded
    rw [judgeHeard_judged (heard := ⟨_, run⟩) hr hl decoded (.inr (.inl ⟨rfl, rfl⟩)), judge_eq _ hrun]
    exact ⟨rfl, rfl⟩
  all_goals
    have decoded := decodeNotice_cells hn h1 h32 rest
    rw [Notice.cells, ← heq, hw] at decoded
  · rw [judgeHeard_judged (heard := ⟨_, run⟩) hr hl decoded (.inr (.inr ⟨rfl, rfl⟩)), judge_eq _ hrun]
    exact ⟨rfl, rfl⟩
  · rw [judgeHeard_good (heard := ⟨_, run⟩) hr hl decoded, if_neg hs, if_neg (by rw [receiveRoom_iff]; omega),
      judge_eq _ hrun]
    exact ⟨rfl, rfl⟩
  · rw [judgeHeard_good (heard := ⟨_, run⟩) hr hl decoded, if_neg hs, if_pos (receiveRoom_iff.2 hroom),
      judge_eq _ hrun]
    exact ⟨rfl, rfl⟩

end Sys2Proof.Machine
end

section
/-! PROOFS. The completion of a notice (R45, R85, R86, R92 to R95, R108, R125, R126, R139, R154). -/

namespace Sys2Proof.Machine

open Sys2Proof.Safety

variable {s t : State} {n : Notice}

/-! ### The line at a completion -/

theorem complete_own {place : Bool} {dom : Nat} (first : TakenFirst) (h1 : 1 ≤ dom) (h8 : dom ≤ 8)
    (hl : s.line.phase = .ownEcho n place) : s.complete dom first =
      State.completeOwn n place (decide (2 ≤ dom)) first { s with line := ⟨.idle, 4 - dom, 0⟩ } := by
  refine (if_pos h8).trans ?_
  rw [hl]
  dsimp only
  rw [Nat.max_eq_right h1]
  rfl

theorem complete_heard {v : Verdict} {dom : Nat} (first : TakenFirst) (h8 : dom ≤ 8)
    (hl : s.line.phase = .judged v) : s.complete dom first =
      State.completeHeard v first { s with line := ⟨.idle, 4 - max (if v.echoes then 3 else 1) dom, 0⟩ } := by
  refine (if_pos h8).trans ?_
  rw [hl]
  rfl

/-! ### Delivery -/

theorem delivers_iff {echoed : Bool} {i : TxItem} : s.delivers echoed i = true ↔
    echoed = true ∨ i.body.isSync = true ∨ s.peers = [] ∨ 3 ≤ i.count := by
  have attempts : 4 ≤ i.count + 1 ↔ 3 ≤ i.count := by omega
  simp [State.delivers, or_assoc, Config.maxAttempts, attempts]

theorem witnessFails_iff {echoed : Bool} {i : TxItem} (hd : s.delivers echoed i = true) :
    s.witnessFails echoed i = true ↔ echoed = false ∧ i.body.isSync = false ∧ s.peers ≠ [] := by
  have attempts : 4 ≤ i.count + 1 ↔ 3 ≤ i.count := by omega
  have delivered := delivers_iff.1 hd
  simp only [State.witnessFails, Bool.and_eq_true, Bool.not_eq_true', decide_eq_true_eq, Config.maxAttempts, attempts,
    List.isEmpty_eq_false_iff, and_assoc]
  constructor
  · rintro ⟨he, hs, hp, -⟩
    exact ⟨he, hs, hp⟩
  · rintro ⟨he, hs, hp⟩
    refine ⟨he, hs, hp, ?_⟩
    rcases delivered with h | h | h | h
    · rw [he] at h; cases h
    · rw [hs] at h; cases h
    · exact absurd h hp
    · exact h

theorem completeOwn_undelivered {place echoed : Bool} {first : TakenFirst} {i : TxItem}
    (ha : attemptItem s.txQueue = some i) (hd : s.delivers echoed i = false) :
    s.completeOwn n place echoed first = s.settleUndelivered i.body (i.count + 1) := by
  rw [State.completeOwn, ha]
  exact if_neg (by rw [hd]; decide)

/-- The delivered notice out of the queue, with WITNESS_FAIL where no echo was heard of it (R86). -/
theorem completeOwn_delivered {place echoed : Bool} {first : TakenFirst} {i : TxItem}
    (ha : attemptItem s.txQueue = some i) (hd : s.delivers echoed i = true) {sent : State}
    (hs : sent = (if echoed = false ∧ i.body.isSync = false ∧ s.peers ≠ [] then State.raise .witnessFail else id)
      { s with txQueue := s.txQueue.filter fun j => !j.inAttempt }) :
    s.completeOwn n place echoed first = inOrder first
      (fun s => if place then s.enqueue ⟨true, s.settings.stationNumber, n⟩ else s.overrun.placeAgain i.body)
      (State.actsAtCompletion true n) sent := by
  have left : ({ s.raiseIf (s.witnessFails echoed i) .witnessFail with
      txQueue := dropAttempt (s.raiseIf (s.witnessFails echoed i) .witnessFail).txQueue } : State) = sent := by
    rw [hs]
    by_cases hw : s.witnessFails echoed i = true
    · rw [hw, if_pos ((witnessFails_iff hd).1 hw)]
      rfl
    · rw [Bool.eq_false_iff.2 hw, if_neg fun h => hw ((witnessFails_iff hd).2 h)]
      rfl
  rw [State.completeOwn, ha, ← left]
  exact if_pos hd

/-- At its completion an own notice but a SYNC does nothing outside the queues (R45, R154). -/
theorem actsAtCompletion_own (h : ∀ f, n ≠ .sync f) : s.actsAtCompletion true n = s := by
  cases n with
  | sync f => exact absurd rfl (h f)
  | _ => rfl

theorem inOrder_quiet {first : TakenFirst} {cause frame : State → State} (h : ∀ x, frame x = x) :
    inOrder first cause frame s = cause s := by
  cases first
  · exact h _
  · exact congrArg cause (h s)

/-- Settles O56: the echo cell, and the completion by delivery and place. -/
theorem ownNoticesCompleteByTheTable : Obligations.OwnNoticesCompleteByTheTable := by
  refine ⟨fun s n hl => congrArg Host.Outcome.next (by rw [State.ownEchoBegins, hl]; rfl),
    fun s n place echoed dom first i h1 h8 he hl ha => ?_⟩
  have completes : ∀ first, s.complete dom first =
      State.completeOwn n place echoed first { s with line := ⟨.idle, 4 - dom, 0⟩ } := fun first => by
    rw [complete_own first h1 h8 hl, he]
  refine ⟨fun hne hsync hp hc => ?_, fun hd sent hs => ?_⟩
  · have undelivered : State.delivers { s with line := ⟨.idle, 4 - dom, 0⟩ } echoed i = false := by
      rw [Bool.eq_false_iff, Ne, delivers_iff]
      rintro (h | h | h | h)
      · rw [hne] at h; cases h
      · rw [hsync] at h; cases h
      · exact hp h
      · omega
    exact congrArg Host.Outcome.next ((completes first).trans (completeOwn_undelivered (by exact ha) undelivered))
  · have delivered : State.delivers { s with line := ⟨.idle, 4 - dom, 0⟩ } echoed i = true := delivers_iff.2 hd
    have ordered := fun first => (completes first).trans (completeOwn_delivered (by exact ha) delivered hs)
    have received : sent.rxQueue = s.rxQueue ∧ sent.settings = s.settings := by
      rw [hs]
      split <;> exact ⟨rfl, rfl⟩
    have queued : sent.enqueue ⟨true, sent.settings.stationNumber, n⟩ =
        { sent with rxQueue := s.rxQueue ++ [⟨true, s.settings.stationNumber, n⟩] } := by
      rw [State.enqueue, received.1, received.2]
    refine ⟨fun hn => ⟨fun hplace => ?_, fun hplace => ?_⟩, fun f hf => ⟨fun hplace => ?_, fun hplace => ?_,
      fun hplace => ?_⟩⟩ <;> subst hplace
    · refine congrArg Host.Outcome.next ((ordered first).trans ((inOrder_quiet fun x => actsAtCompletion_own hn).trans ?_))
      exact queued
    · exact congrArg Host.Outcome.next ((ordered first).trans (inOrder_quiet fun x => actsAtCompletion_own hn))
    · subst hf
      refine congrArg Host.Outcome.next ((ordered first).trans ((inOrder_enqueue_own first (.sync f)).trans ?_))
      rw [queued]
      rfl
    · subst hf
      exact congrArg Host.Outcome.next (ordered .cause)
    · subst hf
      exact congrArg Host.Outcome.next (ordered .frameStart)

/-! ### A heard notice -/

theorem completeHeard_accepted (item : RxItem) (first : TakenFirst) : s.completeHeard (.accepted item) first =
    State.actsAtCompletion false item.notice { s with rxQueue := s.rxQueue ++ [item] } :=
  inOrder_enqueue first false item.notice item

theorem completeHeard_overrun (item : RxItem) (first : TakenFirst) : s.completeHeard (.overrun item) first =
    inOrder first State.overrun (State.actsAtCompletion false item.notice) s := rfl

theorem actsAtCompletion_sync {own : Bool} {f : Nat} (h : n = .sync f) : s.actsAtCompletion own n = s.realign f := by
  subst h
  rfl

theorem actsAtCompletion_shed (h : n = .shed) : s.actsAtCompletion false n = s.shedCause false false := by
  subst h
  rfl

theorem actsAtCompletion_other {own : Bool} (hf : ∀ f, n ≠ .sync f) (hs : n ≠ .shed) : s.actsAtCompletion own n = s := by
  cases n with
  | sync f => exact absurd rfl (hf f)
  | shed => exact absurd rfl hs
  | _ => rfl

/-! ### The table in doubt with no job running -/

theorem enterDesync_free (h : s.unit.job = none) : s.enterDesync =
    State.waitingRefill (State.raise .desync
      { s with station := .desync, unit := { s.unit with refillWaiting := true } }) :=
  if_pos (by exact Option.isNone_iff_eq_none.2 h)

theorem waitingRefill_alone (hr : s.unit.refillWaiting = true) (hs : s.station = .desync) (hp : s.peers = []) :
    s.waitingRefill = State.raise .resyncDone { s with
      station := .joined
      unit := { s.unit with refillWaiting := false } } := by
  refine (if_pos hr).trans ((if_pos hs).trans ?_)
  have none : s.peers.map (fun p : Peer => { p with awaiting := true }) = s.peers := by rw [hp]; rfl
  refine (if_pos (by rw [hp]; rfl)).trans ((if_pos ⟨by exact hs, by rw [hp]; rfl⟩).trans ?_)
  rw [none]

/-- Settles O57: each judgment at its completion, and what a doubt of the table leads to. -/
theorem heardNoticesCompleteByTheirJudgment : Obligations.HeardNoticesCompleteByTheirJudgment := by
  refine ⟨fun s u dom first item h1 h8 => ⟨fun hl hu => ?_, fun hl hu => ?_, fun hl => ?_, fun hl => ?_⟩,
    fun s => ⟨fun ho hj hp => ?_, fun ho hj hp => ?_, fun ho hj => ?_, tableDoubt_listening, tableDoubt_quiet⟩⟩
  · have completes : s.complete dom first =
        State.actsAtCompletion false item.notice { u with rxQueue := s.rxQueue ++ [item] } := by
      rw [complete_heard first h8 hl, completeHeard_accepted, hu]
      rfl
    exact ⟨fun f hf => congrArg Host.Outcome.next (completes.trans (actsAtCompletion_sync hf)),
      fun hs => congrArg Host.Outcome.next (completes.trans (actsAtCompletion_shed hs)),
      fun hf hs => congrArg Host.Outcome.next (completes.trans (actsAtCompletion_other hf hs))⟩
  · have completes : ∀ first, s.complete dom first =
        inOrder first State.overrun (State.actsAtCompletion false item.notice) u := fun first => by
      have period : 4 - max 1 dom = 4 - dom := by rw [Nat.max_eq_right h1]
      rw [complete_heard first h8 hl, completeHeard_overrun, hu, ← period]
      rfl
    refine ⟨fun f hf => ⟨?_, ?_⟩, fun hs => ⟨?_, ?_⟩, fun hf hs => ?_⟩
    · exact congrArg Host.Outcome.next ((completes .cause).trans (actsAtCompletion_sync hf))
    · exact congrArg Host.Outcome.next ((completes .frameStart).trans
        (congrArg State.overrun (actsAtCompletion_sync hf)))
    · exact congrArg Host.Outcome.next ((completes .cause).trans (actsAtCompletion_shed hs))
    · exact congrArg Host.Outcome.next ((completes .frameStart).trans
        (congrArg State.overrun (actsAtCompletion_shed hs)))
    · exact congrArg Host.Outcome.next ((completes first).trans (inOrder_quiet fun x => actsAtCompletion_other hf hs))
  · have period : 4 - max 1 dom = 4 - dom := by rw [Nat.max_eq_right h1]
    refine congrArg Host.Outcome.next ((complete_heard first h8 hl).trans ?_)
    rw [← period]
    rfl
  · have period : 4 - max 1 dom = 4 - dom := by rw [Nat.max_eq_right h1]
    refine congrArg Host.Outcome.next ((complete_heard first h8 hl).trans ?_)
    rw [← period]
    rfl
  · rw [tableDoubt_online_eq ho, enterDesync_free hj, waitingRefill_desync rfl rfl (by exact hp)]
    rfl
  · rw [tableDoubt_online_eq ho, enterDesync_free hj, waitingRefill_alone rfl rfl (by exact hp)]
    rfl
  · rw [tableDoubt_online_eq ho, enterDesync_busy hj]

end Sys2Proof.Machine
end

section
/-! PROOFS. The adoption of a SUMMARY, and its overcommit check (R69, R119 to R123, R130). -/

namespace Sys2Proof.Machine

open Sys2Proof.Safety

variable {s t : State} {n b : Nat} {ls : List Listed} {a : Adoption}

/-! ### The adoption up to its check -/

/-- The state of a SUMMARY's job as it stands before the overcommit check, its job still running (R120 to R122). -/
def adopting (n b : Nat) (a : Adoption) (s : State) : State :=
  let t : State := { s with
    book := a.book
    peers := s.peers.map fun p : Peer => if p.number = n then
      { p with
        silence := 0
        budget := some b
        mismatch := p.mismatch || decide (b ≠ s.settings.budget)
        awaiting := p.awaiting && !(decide (s.station = .desync) && a.complete) } else p }
  if b ≠ s.settings.budget ∧ (∃ p ∈ findPeer n s.peers, p.mismatch = false) then t.raise .budgetMismatch else t

theorem unitDone_adopting : unitDone (adopting n b a s) = adopted n b a s := by
  unfold adopting adopted
  dsimp only
  split <;> rfl

theorem adopting_unit : (adopting n b a s).unit = s.unit := by
  unfold adopting
  dsimp only
  split <;> rfl

theorem settled_peers : (settled n s).peers =
    s.peers.map fun p : Peer => if p.number = n then { p with silence := 0 } else p := rfl

theorem findPeer_settled (ps : List Peer) :
    findPeer n (ps.map fun p : Peer => if p.number = n then { p with silence := 0 } else p) =
      (findPeer n ps).map fun p : Peer => if p.number = n then { p with silence := 0 } else p := by
  rw [findPeer, findPeer, List.find?_map]
  have same : ((fun p : Peer => p.number == n) ∘ fun p : Peer => if p.number = n then { p with silence := 0 } else p) =
      fun p => p.number == n := by
    funext p
    simp only [Function.comp]
    split <;> rfl
  rw [same]

/-- The budget report is the first differing one, the sender settled or not (R121). -/
theorem firstMismatch_settled {own : Nat} : firstMismatch n own b (settled n s).peers = true ↔
    b ≠ own ∧ ∃ p ∈ findPeer n s.peers, p.mismatch = false := by
  rw [firstMismatch, settled_peers, findPeer_settled]
  cases findPeer n s.peers with
  | none => simp
  | some p =>
    have mismatch : (if p.number = n then { p with silence := 0 } else p).mismatch = p.mismatch := by
      split <;> rfl
    simp [mismatch]

/-- The sender's record with its report made, from the record as it was (R7, R121, R122). -/
theorem report_settled (own : Nat) (clears : Bool) (ps : List Peer) :
    updatePeer n (fun p => { p.report own b with awaiting := p.awaiting && !clears })
      (ps.map fun p : Peer => if p.number = n then { p with silence := 0 } else p) =
    ps.map fun p : Peer => if p.number = n then
      { p with
        silence := 0
        budget := some b
        mismatch := p.mismatch || decide (b ≠ own)
        awaiting := p.awaiting && !clears } else p := by
  rw [updatePeer, List.map_map]
  refine List.map_congr_left fun p _ => ?_
  have differs : (b != own) = decide (b ≠ own) := by
    rw [Bool.eq_iff_iff, bne_iff_ne, decide_eq_true_iff]
  by_cases hp : p.number = n
  · simp [hp, Peer.report, differs]
  · simp [hp]

/-- A heard SUMMARY is adopted as far as its check, then checked, and its TABLE_FULL reported last (R21, R119 to
R123). -/
theorem jobChanges_summary (hf : findPeer n s.peers ≠ none) (ha : a = addListed n ls (s.book.dropOwned n)) :
    s.jobChanges (.evaluate ⟨false, n, .summary b ls⟩) =
      if a.complete then (adopting n b a s).overcommitCheck a.added
      else ((adopting n b a s).overcommitCheck a.added).tableFull := by
  change (s.settlePeer n (.summary b ls)).adopt n b ls = _
  rw [settlePeer_settled hf]
  have before : State.raiseIf (firstMismatch n s.settings.budget b (settled n s).peers) .budgetMismatch
      { settled n s with
        book := a.book
        peers := updatePeer n (fun p => { p.report s.settings.budget b with
          awaiting := p.awaiting && !(decide (s.station = .desync) && a.complete) }) (settled n s).peers } =
      adopting n b a s := by
    rw [settled_peers (s := s), report_settled]
    by_cases hm : firstMismatch n s.settings.budget b (settled n s).peers = true
    · rw [← settled_peers, hm]
      exact (if_pos (firstMismatch_settled.1 hm)).symm
    · rw [← settled_peers, Bool.eq_false_iff.2 hm]
      exact (if_neg fun h => hm (firstMismatch_settled.2 h)).symm
  rw [← before]
  unfold State.adopt
  rw [show (settled n s).book = s.book from rfl, ← ha]
  rfl

theorem adopting_eq : adopting n b a s = { s with
    book := a.book, peers := (adopting n b a s).peers, events := (adopting n b a s).events } := by
  unfold adopting
  dsimp only
  split <;> rfl

theorem adopting_peers : (adopting n b a s).peers ≠ [] ↔ s.peers ≠ [] := by
  unfold adopting
  dsimp only
  split <;> exact not_congr List.map_eq_nil_iff

theorem peers_ne_nil (hf : findPeer n s.peers ≠ none) : s.peers ≠ [] := by
  intro hnil
  rw [hnil] at hf
  exact hf rfl

/-- The end of a SUMMARY's job, its check made (R21, R130). -/
theorem exec_summary {y : State} (h : Runs s (.evaluate ⟨false, n, .summary b ls⟩)) (hf : findPeer n s.peers ≠ none)
    (ha : a = addListed n ls (s.book.dropOwned n)) (hy : (adopting n b a s).overcommitCheck a.added = y)
    (hu : y.unit = s.unit) (hp : y.peers = (adopting n b a s).peers) :
    exec (.evaluate .finish) s = .next (adoptionOver a.complete (unitDone y)) := by
  have changes := jobChanges_summary (b := b) hf ha
  rw [hy] at changes
  cases hc : a.complete with
  | true =>
    rw [hc] at changes
    exact exec_evaluated h (by simp) changes hu
  | false =>
    rw [hc] at changes
    refine congrArg Host.Outcome.next ((finishEvaluate_eq h.1 (by simp)).trans ?_)
    rw [changes]
    exact tableFull_over h hu (by rw [hp]; exact adopting_peers.2 (peers_ne_nil hf))

/-! ### The overcommit check -/

theorem mem_overcommitted {budget : Nat} {i : Fin 64} :
    i ∈ overcommitted budget a.added a.book ↔ OverBudget budget a i := by
  simp [overcommitted, slices, OverBudget, Window.covers_iff]

theorem overcommitted_isEmpty {budget : Nat} :
    (overcommitted budget a.added a.book).isEmpty = true ↔ ∀ i : Fin 64, ¬ OverBudget budget a i := by
  rw [List.isEmpty_iff, List.eq_nil_iff_forall_not_mem]
  simp only [mem_overcommitted]

/-- The slices that the own RELEASING entries do not resolve (R123). -/
theorem mem_unresolved {own budget : Nat} {i : Fin 64} : i ∈ unresolved own budget a.added a.book ↔
    OverBudget budget a i ∧
      budget + weightOver (fun e => e.owner == own && e.state == .releasing) a.book i.val <
        (a.book.map.get i).committed := by
  have weight : a.book.releasingWeight own i.val =
      weightOver (fun e => e.owner == own && e.state == .releasing) a.book i.val := rfl
  rw [unresolved, List.mem_filter, mem_overcommitted, weight, decide_eq_true_iff]

theorem overcommitCheck_within (hb : s.book = a.book) (h : ∀ i : Fin 64, ¬ OverBudget s.settings.budget a i) :
    s.overcommitCheck a.added = s := if_pos (by rw [hb]; exact overcommitted_isEmpty.2 h)

theorem overcommitCheck_over (hb : s.book = a.book) (h : ∃ i : Fin 64, OverBudget s.settings.budget a i)
    {yielding : Option Chan} (hy : yielding =
      s.yieldChannel (unresolved s.settings.stationNumber s.settings.budget a.added a.book)) :
    ((s.station.online = false ∨ yielding = none) → s.overcommitCheck a.added = s.raise .overcommit) ∧
      ∀ c, s.station.online = true → yielding = some c →
        s.overcommitCheck a.added = (s.raise .overcommit).givenBack c true := by
  have exceeds : ¬ (overcommitted s.settings.budget a.added s.book).isEmpty = true := by
    obtain ⟨i, hi⟩ := h
    rw [hb]
    exact fun he => overcommitted_isEmpty.1 he i hi
  have found : (s.raise .overcommit).yieldChannel (unresolved (s.raise .overcommit).settings.stationNumber
      (s.raise .overcommit).settings.budget a.added (s.raise .overcommit).book) = yielding := by
    rw [hy, ← hb]
    rfl
  refine ⟨fun hn => (if_neg exceeds).trans ?_, fun c ho hc => (if_neg exceeds).trans ((if_pos (by exact ho)).trans ?_)⟩
  · rcases hn with ho | hn
    · exact if_neg (by rw [show (s.raise .overcommit).station = s.station from rfl, ho]; decide)
    · dsimp only
      rw [found, hn]
      exact ite_self _
  · rw [found, hc]
    rfl

/-! ### O43 -/

/-- Settles O43: the tables of the adoption, and its end with no slice above BUDGET. -/
theorem summariesReplaceTheSendersEntries : Obligations.SummariesReplaceTheSendersEntries := by
  intro s n b ls a h hf ha
  obtain ⟨k, hk, hcomplete, hadded, hfrom, hkeep, hall, hfull⟩ := addListed_spec n ls (s.book.dropOwned n)
  rw [← ha] at hcomplete hadded hfrom hkeep hall hfull
  refine ⟨⟨fun p e he ho => ?_, fun p e ho => ⟨fun he => ?_, fun he => hkeep p e (entry_dropOwned.2 ⟨he, ho⟩)⟩,
    k, hk, hcomplete, hadded, hall, hfull⟩, fun hover => ?_⟩
  · rcases hfrom p e he with hold | ⟨-, l, hl, rfl⟩
    · exact absurd ho (entry_dropOwned.1 hold).2
    · exact ⟨l, List.mem_of_mem_take hl, rfl⟩
  · rcases hfrom p e he with hold | ⟨-, l, -, rfl⟩
    · exact (entry_dropOwned.1 hold).1
    · exact absurd rfl ho
  · have settings : (adopting n b a s).settings = s.settings := by rw [adopting_eq]
    have checked := overcommitCheck_within (s := adopting n b a s) (a := a) (by rw [adopting_eq]) (by rwa [settings])
    rw [exec_summary h hf ha checked adopting_unit rfl, unitDone_adopting]

/-! ### O44 -/

/-- A channel that is HELD over one of the slices (R69). -/
def HeldOver (is : List (Fin 64)) (s : State) (c : Chan) : Prop :=
  (s.chan c).state = .held ∧
    ∃ w ∈ (s.chan c).window, ∃ i ∈ is, w.start ≤ i.val ∧ i.val < w.start + w.len

theorem heldOver_iff {is : List (Fin 64)} {c : Chan} :
    ((s.chan c).state == .held && is.any fun i => (s.chan c).window.any fun w => w.covers i.val) = true ↔
      HeldOver is s c := by
  cases hw : (s.chan c).window <;> simp [HeldOver, hw, Window.covers_iff]

theorem yieldChannel_eq_none {is : List (Fin 64)} (h : ∀ c ∈ s.grants, ¬ HeldOver is s c) : s.yieldChannel is = none :=
  List.find?_eq_none.2 fun c hc hy => h c (List.mem_reverse.1 hc) (heldOver_iff.1 hy)

/-- The newest grant that is HELD over one of the slices yields (R69). -/
theorem yieldChannel_newest {is : List (Fin 64)} {older newer : List Chan} {c : Chan}
    (hg : s.grants = older ++ c :: newer) (hc : HeldOver is s c) (hn : ∀ d ∈ newer, ¬ HeldOver is s d) :
    s.yieldChannel is = some c := by
  have reversed : s.grants.reverse = newer.reverse ++ c :: older.reverse := by rw [hg]; simp
  rw [State.yieldChannel, reversed, List.find?_append,
    List.find?_eq_none.2 fun d hd hy => hn d (List.mem_reverse.1 hd) (heldOver_iff.1 hy), Option.none_or]
  exact List.find?_cons_of_pos (heldOver_iff.2 hc)

/-- A channel that yields in the overcommit check (R69). -/
theorem heldOver_unresolved {own budget : Nat} {c : Chan} :
    HeldOver (unresolved own budget a.added a.book) s c ↔ (s.chan c).state = .held ∧
      ∃ w ∈ (s.chan c).window, ∃ i : Fin 64, w.start ≤ i.val ∧ i.val < w.start + w.len ∧
        OverBudget budget a i ∧
          budget + weightOver (fun e => e.owner == own && e.state == .releasing) a.book i.val <
            (a.book.map.get i).committed := by
  unfold HeldOver
  simp only [mem_unresolved]
  refine and_congr_right fun _ => exists_congr fun w => and_congr_right fun _ => exists_congr fun i => ?_
  exact ⟨fun ⟨⟨ho, hl⟩, hs, he⟩ => ⟨hs, he, ho, hl⟩, fun ⟨hs, he, ho, hl⟩ => ⟨⟨ho, hl⟩, hs, he⟩⟩

/-- Settles O44: no grant yields, or the newest one that is HELD over an unresolved slice. -/
theorem overcommitMakesTheNewestGrantYield : Obligations.OvercommitMakesTheNewestGrantYield := by
  intro s n b ls a h hsafe hf ha hover yields hyields
  have heldOver : ∀ c, HeldOver (unresolved s.settings.stationNumber s.settings.budget a.added a.book) s c ↔ yields c :=
    fun c => heldOver_unresolved.trans (hyields c).symm
  generalize hy : s.yieldChannel (unresolved s.settings.stationNumber s.settings.budget a.added a.book) = yielding
  obtain ⟨calm, yielded⟩ := overcommitCheck_over (s := adopting n b a s) (a := a) (yielding := yielding)
    (by rw [adopting_eq]) (by rw [adopting_eq]; exact hover) (by rw [← hy, adopting_eq]; rfl)
  have station : (adopting n b a s).station = s.station := by rw [adopting_eq]
  refine ⟨fun hn => ?_, fun c older newer ho hg hc hnewer => ?_⟩
  · have none : s.station.online = false ∨ yielding = .none :=
      hn.imp_right fun h => hy.symm.trans (yieldChannel_eq_none fun c hc hh => h c hc ((heldOver c).1 hh))
    rw [exec_summary h hf ha (calm (by rwa [station])) adopting_unit rfl, ← unitDone_adopting]
    rfl
  · have found : yielding = some c := hy.symm.trans
      (yieldChannel_newest hg ((heldOver c).2 hc) fun d hd hh => hnewer d hd ((heldOver d).1 hh))
    have safe : OutputsSafe ((adopting n b a s).raise .overcommit) := by
      rw [adopting_eq]
      exact hsafe
    have checked := (yielded c (by rwa [station]) found).trans
      (givenBack_safe safe (by rw [adopting_eq]; exact ho))
    rw [exec_summary h hf ha checked adopting_unit rfl, ← unitDone_adopting]
    rfl

end Sys2Proof.Machine
end

section
/-! PROOFS. The end of a job: what waited for the unit, row by row (R14 to R17, R73, R126, R130, R168, R169). -/

namespace Sys2Proof.Machine

open Sys2Proof.Safety

variable {s t : State}

/-! ### What the waiting rows leave alone -/

theorem waitingLeave_frame : s.waitingLeave.unit = { s.unit with leaveWaiting := false } ∧ s.waitingLeave.host = s.host := by
  unfold State.waitingLeave
  split
  · obtain ⟨chans, events, h, -⟩ := leaveChannels_eq (s := s)
    rw [h]
    exact ⟨rfl, rfl⟩
  · next h =>
    rw [show (false : Bool) = s.unit.leaveWaiting from (Bool.eq_false_iff.2 h).symm]
    exact ⟨rfl, rfl⟩

theorem waitingWithdrawal_frame (c : Chan) :
    (s.waitingWithdrawal c).unit = { s.unit with withdrawals := s.unit.withdrawals.filter (· != c) } ∧
      (s.waitingWithdrawal c).host = s.host := by
  unfold State.waitingWithdrawal
  split
  · exact ⟨withdraw_unit c, withdraw_host c⟩
  · next h =>
    have same : s.unit.withdrawals.filter (· != c) = s.unit.withdrawals :=
      List.filter_eq_self.2 fun d hd => bne_iff_ne.2 fun he => h (he ▸ hd)
    rw [same]
    exact ⟨rfl, rfl⟩

theorem waitingEach_frame (cs : List Chan) : ∀ s : State,
    (cs.foldl (fun s c => s.waitingWithdrawal c) s).unit =
        { s.unit with withdrawals := s.unit.withdrawals.filter fun d => decide (d ∉ cs) } ∧
      (cs.foldl (fun s c => s.waitingWithdrawal c) s).host = s.host := by
  induction cs with
  | nil =>
    intro s
    rw [List.filter_eq_self.2 (by simp)]
    exact ⟨rfl, rfl⟩
  | cons c cs ih =>
    intro s
    obtain ⟨hu, hh⟩ := waitingWithdrawal_frame (s := s) c
    obtain ⟨hus, hhs⟩ := ih (s.waitingWithdrawal c)
    refine ⟨hus.trans ?_, hhs.trans hh⟩
    rw [hu, List.filter_filter]
    have both : (fun d => decide (d ∉ cs) && (d != c)) = fun d => decide (d ∉ c :: cs) := by
      funext d
      rw [Bool.eq_iff_iff]
      simp [and_comm]
    rw [both]

theorem waitingRefill_frame : s.waitingRefill.unit = { s.unit with refillWaiting := false } ∧
    s.waitingRefill.host = s.host := by
  have joined : ∀ x : State, x.returnToJoined.unit = x.unit ∧ x.returnToJoined.host = x.host := fun x => by
    unfold State.returnToJoined
    split <;> exact ⟨rfl, rfl⟩
  unfold State.waitingRefill
  split
  · split
    · unfold State.refill
      dsimp only
      split
      · exact joined _
      · exact ⟨rfl, rfl⟩
    · exact ⟨rfl, rfl⟩
  · next h =>
    rw [show (false : Bool) = s.unit.refillWaiting from (Bool.eq_false_iff.2 h).symm]
    exact ⟨rfl, rfl⟩

/-! ### The run of the waiting rows -/

theorem exec_waitingLeave (h : s.unit.job = none) : exec .leaveDeferredChannelEffects s = .next s.waitingLeave :=
  congrArg Host.Outcome.next (if_pos (unitFree_iff.2 h))

theorem exec_waitingWithdrawal (c : Chan) (h : s.unit.job = none) :
    exec (.withdrawal c) s = .next (s.waitingWithdrawal c) := congrArg Host.Outcome.next (if_pos (unitFree_iff.2 h))

theorem exec_waitingRefill (h : s.unit.job = none) : exec .resyncRefill s = .next s.waitingRefill :=
  congrArg Host.Outcome.next (if_pos (unitFree_iff.2 h))

theorem runRows_next {i : Instr} {rows : List Instr} {x : State} (h : exec i s = .next x) :
    runRows (i :: rows) s = runRows rows x := by
  rw [runRows, h]

theorem runRows_withdrawals (cs : List Chan) : ∀ s : State, s.unit.job = none →
    runRows (cs.map Instr.withdrawal ++ [.resyncRefill]) s =
      some (cs.foldl (fun s c => s.waitingWithdrawal c) s).waitingRefill := by
  induction cs with
  | nil => exact fun s h => runRows_next (exec_waitingRefill h)
  | cons c cs ih =>
    intro s h
    refine (runRows_next (exec_waitingWithdrawal c h)).trans (ih _ ?_)
    rw [(waitingWithdrawal_frame c).1]
    exact h

/-- The waiting rows, one after the other, are what the end of a job carries out (R16, R17, R73, R126). -/
theorem runRows_waiting (h : s.unit.job = none) :
    runRows (waitingRows s) s = some s.waitingLeave.waitingWithdrawals.waitingRefill := by
  obtain ⟨hu, -⟩ := waitingLeave_frame (s := s)
  have list : s.waitingLeave.unit.withdrawals = s.unit.withdrawals := by rw [hu]
  refine (runRows_next (exec_waitingLeave h)).trans ((runRows_withdrawals _ _ (by rw [hu]; exact h)).trans ?_)
  rw [State.waitingWithdrawals, list]

theorem freeUnit_eq : s.freeUnit = (unitDone s).waitingLeave.waitingWithdrawals.waitingRefill := rfl

/-- After the end of a job nothing waits, and the port is as it was (R16). -/
theorem freeUnit_frame : s.freeUnit.unit = { s.unit with
    job := none, withdrawals := [], leaveWaiting := false, refillWaiting := false } ∧ s.freeUnit.host = s.host := by
  obtain ⟨hlu, hlh⟩ := waitingLeave_frame (s := unitDone s)
  obtain ⟨hwu, hwh⟩ := waitingEach_frame (unitDone s).waitingLeave.unit.withdrawals (unitDone s).waitingLeave
  obtain ⟨hru, hrh⟩ := waitingRefill_frame (s := (unitDone s).waitingLeave.waitingWithdrawals)
  rw [freeUnit_eq]
  refine ⟨hru.trans ?_, hrh.trans (hwh.trans hlh)⟩
  have none : ((unitDone s).waitingLeave.unit.withdrawals.filter
      fun d => decide (d ∉ (unitDone s).waitingLeave.unit.withdrawals)) = [] :=
    List.filter_eq_nil_iff.2 fun d hd => by simp [hd]
  rw [State.waitingWithdrawals, hwu, none, hlu]
  rfl

/-! ### The ends of the jobs -/

/-- The waiting rows run to the state at the end of the job (R16, R17). -/
theorem runRows_changed {j : Job} (h : runRows (waitingRows (changed j s)) (changed j s) = some t) :
    t = s.endJob j :=
  Option.some.inj (h.symm.trans (runRows_waiting (s := changed j s) rfl))

theorem endJob_host {tk : Taken} : (s.endJob (.host tk)).host = s.host :=
  freeUnit_frame.2.trans (hostChange_host tk)

/-- The end of a HOST job: its changes and what waited, then its response or the end of the held command (R168, R169). -/
theorem finishHost_endJob {tk : Taken} (h : s.unit.job = some (.host tk)) : s.finishHost =
    if s.host.held.isSome then (s.endJob (.host tk)).releaseHeld
    else (s.endJob (.host tk)).answerWith (s.hostResponse tk) := by
  rw [State.finishHost, h, ← endJob_host (s := s) (tk := tk)]
  rfl

/-- The ends of the four jobs, what waited carried out (R130, R168, R169). -/
theorem ends_of_rows {j : Job} (hj : s.unit.job = some j) (hn : ∀ n, j ≠ .evaluate ⟨true, n, .leave⟩)
    (h : runRows (waitingRows (changed j s)) (changed j s) = some t) :
    (t.unit.withdrawals = [] ∧ t.unit.leaveWaiting = false ∧ t.unit.refillWaiting = false) ∧
      (∀ item, j = .evaluate item → exec (.evaluate .finish) s = .next (checkedReturn t)) ∧
      (∀ lost, j = .sweep lost → exec (.sweep .finish) s = .next (checkedReturn t)) ∧
      (∀ c, j = .placement c → exec (.placement .finish) s = .next t) ∧
      (∀ tk, j = .host tk →
        (s.host.held = none → exec (.hostJob .finish) s = .next { t with
          host := { s.host with response := some (s.hostResponse tk), phase := .waiting } }) ∧
        (s.host.held ≠ none → s.host.current = none ∨ s.host.response ≠ none →
          exec (.hostJob .finish) s = .next { t with host := { s.host with held := none } }) ∧
        (∀ cmd b, s.host.held ≠ none → s.host.current = some ⟨cmd, b⟩ → s.host.response = none →
          exec (.hostJob .finish) s =
            exec (commandStep cmd) { t with host := { s.host with held := none, phase := .command } })) := by
  obtain rfl := runRows_changed h
  obtain ⟨unit, -⟩ := freeUnit_frame (s := s.jobChanges j)
  refine ⟨⟨congrArg TableUnit.withdrawals unit, congrArg TableUnit.leaveWaiting unit, congrArg TableUnit.refillWaiting unit⟩,
    fun item hi => ?_, fun lost hl => ?_, fun c hc => ?_, fun tk ht => ?_⟩
  · subst hi
    refine congrArg Host.Outcome.next (finishEvaluate_eq hj ?_)
    rintro ⟨ho, hl⟩
    obtain ⟨own, sender, notice⟩ := item
    exact hn sender (by rw [show own = true from ho, show notice = .leave from hl])
  · subst hl
    have ends : s.finishSweep = checkedReturn (s.endJob (.sweep lost)) := by
      rw [State.finishSweep, hj]
      exact returnToJoined_eq
    exact congrArg Host.Outcome.next ends
  · subst hc
    have ends : s.finishPlacement = s.endJob (.placement c) := by
      rw [State.finishPlacement, hj]
      rfl
    exact congrArg Host.Outcome.next ends
  · subst ht
    have ends := finishHost_endJob hj
    have host := endJob_host (s := s) (tk := tk)
    refine ⟨fun hh => ?_, fun hh hq => ?_, fun cmd b hh hc hr => ?_⟩
    · refine congrArg Host.Outcome.next (ends.trans ((if_neg (by rw [hh]; decide)).trans ?_))
      rw [State.answerWith, host]
    · refine congrArg Host.Outcome.next (ends.trans ((if_pos (Option.isSome_iff_ne_none.2 hh)).trans ?_))
      rw [releaseHeld_idle (by rwa [host]), host]
    · refine (congrArg Host.Outcome.next (ends.trans (if_pos (Option.isSome_iff_ne_none.2 hh)))).trans ?_
      rw [releaseHeld_latched (by rw [host]; exact hc) (by rw [host]; exact hr), host]

/-- A job with nothing in between is its grant and its end (R14, R15). -/
theorem atPoint_whole {grant finish : State → State} (h : s.unit.job = none) :
    atPoint .whole grant finish s = finish (grant s) := if_pos (unitFree_iff.2 h)

end Sys2Proof.Machine
end

section
/-! PROOFS. The changes of a job are the same whatever waits for the Table Unit (R16, R17, R126). -/

namespace Sys2Proof.Machine

open Sys2Proof.Safety

/-- An operation does not look at what waits for the Table Unit, and leaves it as it is. -/
def IgnoresWork (f : State → State) : Prop :=
  ∀ (cs : List Chan) (leave refill : Bool) (s : State), f (withWork cs leave refill s) = withWork cs leave refill (f s)

/-! ### How such operations are put together -/

theorem IgnoresWork.comp {f g : State → State} (hg : IgnoresWork g) (hf : IgnoresWork f) :
    IgnoresWork fun s => g (f s) := fun cs leave refill s => (congrArg g (hf cs leave refill s)).trans (hg cs leave refill (f s))

theorem IgnoresWork.ite {p : State → Prop} [DecidablePred p] {f g : State → State}
    (hp : ∀ cs leave refill s, p (withWork cs leave refill s) ↔ p s) (hf : IgnoresWork f) (hg : IgnoresWork g) :
    IgnoresWork fun s => if p s then f s else g s := fun cs leave refill s => by
  dsimp only
  by_cases h : p s
  · rw [if_pos h, if_pos ((hp cs leave refill s).2 h)]
    exact hf cs leave refill s
  · rw [if_neg h, if_neg (mt (hp cs leave refill s).1 h)]
    exact hg cs leave refill s

theorem ignoresWork_id : IgnoresWork fun s => s := fun _ _ _ _ => rfl

theorem IgnoresWork.foldl {α : Type} {f : α → State → State} (hf : ∀ a, IgnoresWork (f a)) :
    ∀ l : List α, IgnoresWork fun s => l.foldl (fun s a => f a s) s
  | [] => ignoresWork_id
  | a :: l => (IgnoresWork.foldl hf l).comp (hf a)

/-! ### The operations on a channel -/

theorem raiseIf_ignoresWork (b : Bool) (e : Event) : IgnoresWork (State.raiseIf b e) :=
  .ite (p := fun _ => b = true) (fun _ _ _ _ => Iff.rfl) (fun _ _ _ _ => rfl) ignoresWork_id

theorem sendRelease_ignoresWork (c : Chan) : IgnoresWork (State.sendRelease c) :=
  .ite (p := fun s => s.station.online = true) (fun _ _ _ _ => Iff.rfl) (fun _ _ _ _ => rfl) ignoresWork_id

theorem withdraw_ignoresWork (c : Chan) : IgnoresWork (State.withdraw c) :=
  .ite (p := fun s => (s.chan c).state = .claiming) (fun _ _ _ _ => Iff.rfl) (fun _ _ _ _ => rfl) ignoresWork_id

theorem grantChannel_ignoresWork (c : Chan) : IgnoresWork (State.grantChannel c) :=
  .ite (p := fun s => (s.chan c).releasePending = true) (fun _ _ _ _ => Iff.rfl)
    ((sendRelease_ignoresWork c).comp fun _ _ _ _ => rfl) fun _ _ _ _ => rfl

theorem voidChannel_ignoresWork (c : Chan) : IgnoresWork (State.voidChannel c) :=
  .ite (p := fun s => (s.chan c).releasePending = true) (fun _ _ _ _ => Iff.rfl) (fun _ _ _ _ => rfl)
    (.ite (p := fun s => (s.chan c).attempts < Config.maxPlacements) (fun _ _ _ _ => Iff.rfl) (fun _ _ _ _ => rfl)
      fun _ _ _ _ => rfl)

theorem ownClaim_ignoresWork (c : Chan) (w : Window) (weight : Nat) : IgnoresWork (State.ownClaim c w weight) :=
  .ite (p := fun s => (s.chan c).state = .claiming) (fun _ _ _ _ => Iff.rfl)
    (.ite (p := fun s => s.book.fits false s.settings.budget weight w = true) (fun _ _ _ _ => Iff.rfl)
      ((grantChannel_ignoresWork c).comp fun _ _ _ _ => rfl) ((voidChannel_ignoresWork c).comp fun _ _ _ _ => rfl))
    ignoresWork_id

theorem ownRelease_ignoresWork (c : Chan) : IgnoresWork (State.ownRelease c) :=
  .ite (p := fun s => (s.chan c).state = .releasing) (fun _ _ _ _ => Iff.rfl)
    (.ite (p := fun s => (s.chan c).reRequest = true) (fun _ _ _ _ => Iff.rfl) (fun _ _ _ _ => rfl) fun _ _ _ _ => rfl)
    ignoresWork_id

theorem ownEffect_ignoresWork (notice : Notice) : IgnoresWork (State.ownEffect notice) :=
  match notice with
  | .release c => ownRelease_ignoresWork c
  | .claim c w weight => ownClaim_ignoresWork c w weight
  | .sync _ | .shed | .leave | .summary _ _ => ignoresWork_id

/-! ### The operations on the table -/

theorem settlePeer_ignoresWork (n : Nat) (notice : Notice) : IgnoresWork (State.settlePeer n notice) :=
  .ite (p := fun s => (findPeer n s.peers).isSome = true) (fun _ _ _ _ => Iff.rfl) (fun _ _ _ _ => rfl)
    (.ite (p := fun _ => notice = .leave) (fun _ _ _ _ => Iff.rfl) ignoresWork_id fun _ _ _ _ => rfl)

theorem removeStation_ignoresWork (n : Nat) : IgnoresWork (State.removeStation n) := fun cs leave refill s => by
  rw [State.removeStation, State.removeStation]
  generalize hb : s.book.dropOwned n = b
  have same : (withWork cs leave refill s).book.dropOwned n = b := hb
  rw [same]
  rfl

theorem heardLeave_ignoresWork (n : Nat) : IgnoresWork (State.heardLeave n) :=
  .ite (p := fun s => (findPeer n s.peers).isSome = true) (fun _ _ _ _ => Iff.rfl)
    (.comp (g := State.raise .peerGone) (fun _ _ _ _ => rfl) (removeStation_ignoresWork n)) ignoresWork_id

theorem yield_ignoresWork (c : Chan) : IgnoresWork (State.yield c) :=
  (sendRelease_ignoresWork c).comp fun _ _ _ _ => rfl

theorem overcommitCheck_online {added : List Window} {s : State}
    (he : ¬(overcommitted s.settings.budget added s.book).isEmpty = true) (ho : s.station.online = true) {o : Option Chan}
    (hy : State.yieldChannel (unresolved s.settings.stationNumber s.settings.budget added s.book) s = o) :
    (∀ c, o = some c → s.overcommitCheck added = (s.raise .overcommit).yield c) ∧
      (o = none → s.overcommitCheck added = s.raise .overcommit) := by
  have same : State.yieldChannel (unresolved (s.raise .overcommit).settings.stationNumber
      (s.raise .overcommit).settings.budget added (s.raise .overcommit).book) (s.raise .overcommit) = o := hy
  refine ⟨fun c hc => (if_neg he).trans ((if_pos (by exact ho)).trans ?_),
    fun hn => (if_neg he).trans ((if_pos (by exact ho)).trans ?_)⟩
  · rw [same, hc]
  · rw [same, hn]

theorem overcommitCheck_ignoresWork (added : List Window) : IgnoresWork (State.overcommitCheck added) :=
  fun cs leave refill s => by
    by_cases he : (overcommitted s.settings.budget added s.book).isEmpty = true
    · exact (if_pos (by exact he)).trans (congrArg _ (if_pos (by exact he)).symm)
    by_cases ho : s.station.online = true
    · cases hy : State.yieldChannel (unresolved s.settings.stationNumber s.settings.budget added s.book) s with
      | none =>
        rw [(overcommitCheck_online he ho hy).2 rfl, (overcommitCheck_online (s := withWork cs leave refill s) he ho hy).2 rfl]
        rfl
      | some c =>
        rw [(overcommitCheck_online he ho hy).1 c rfl,
          (overcommitCheck_online (s := withWork cs leave refill s) he ho hy).1 c rfl]
        exact yield_ignoresWork c cs leave refill (s.raise .overcommit)
    · have off : ∀ x : State, ¬(overcommitted x.settings.budget added x.book).isEmpty = true → ¬x.station.online = true →
          x.overcommitCheck added = x.raise .overcommit := fun x he ho => (if_neg he).trans (if_neg (by exact ho))
      rw [off s he ho, off (withWork cs leave refill s) he ho]
      rfl

/-- A peer lost in a running sweep changes the unit's job alone (R19, R20). -/
theorem losePeer_ignoresWork (n : Nat) : IgnoresWork (State.losePeer n) := fun cs leave refill s => by
  by_cases hn : s.nextLost = some n
  · cases hj : s.unit.job with
    | none => rw [losePeer_free n hj, losePeer_free n (s := withWork cs leave refill s) hj]
    | some j =>
      cases j with
      | sweep lost =>
        rw [losePeer_lost hj hn, losePeer_lost (s := withWork cs leave refill s) hj hn]
        change sweeping (s.book.dropOwned n) _ true _ = _
        generalize s.book.dropOwned n = b
        rfl
      | evaluate _ | host _ | placement _ =>
        rw [State.losePeer, State.losePeer, hj, show (withWork cs leave refill s).unit.job = _ from hj]
  · rw [losePeer_not hn, losePeer_not (s := withWork cs leave refill s) hn]

theorem losePeers_ignoresWork : IgnoresWork State.losePeers := fun cs leave refill s =>
  IgnoresWork.foldl losePeer_ignoresWork (s.peers.map Peer.number) cs leave refill s

/-! ### The HOST and PLACEMENT jobs -/

theorem acceptRelease_ignoresWork (c : Chan) : IgnoresWork (State.acceptRelease c) := fun cs leave refill s => by
  have same : (withWork cs leave refill s).chan c = s.chan c := rfl
  unfold State.acceptRelease
  rw [same]
  cases (s.chan c).state with
  | idle | placing | releasing => rfl
  | claiming =>
    exact IgnoresWork.ite (p := fun s => claimWaits c s.txQueue = true) (fun _ _ _ _ => Iff.rfl)
      ((withdraw_ignoresWork c).comp
        (f := fun s => { s with txQueue := withdrawItems (TxBody.isClaimOf c) s.txQueue }) fun _ _ _ _ => rfl)
      (g := State.modChan c fun ch => { ch with releasePending := true }) (fun _ _ _ _ => rfl) cs leave refill s
  | held =>
    exact (sendRelease_ignoresWork c).comp (f := fun s => (State.modChan c
      (fun ch => { ch with state := .releasing, live := false })
      { s with book := s.book.restateKey s.settings.stationNumber c .releasing }).trimDrive) (fun _ _ _ _ => rfl) cs leave refill s

theorem hostChange_ignoresWork (tk : Taken) : IgnoresWork (State.hostChange tk) := fun cs leave refill s => by
  obtain ⟨cmd, pending⟩ := tk
  cases cmd with
  | request c m st l =>
    exact IgnoresWork.ite (p := fun s => s.requestCheck c m st l = .ok) (fun _ _ _ _ => Iff.rfl)
      (fun _ _ _ _ => rfl) ignoresWork_id cs leave refill s
  | release c =>
    exact IgnoresWork.ite (p := fun s => s.releaseCheck c pending = .ok ∧ !pending) (fun _ _ _ _ => Iff.rfl)
      (acceptRelease_ignoresWork _) ignoresWork_id cs leave refill s
  | _ => rfl

theorem placementResult_ignoresWork (c : Chan) : IgnoresWork (State.placementResult c) := fun cs leave refill s => by
  cases hw : s.placementWindow c with
  | none =>
    rw [placementResult_noRoom hw, placementResult_noRoom (s := withWork cs leave refill s) hw]
    rfl
  | some w =>
    cases ha : s.book.add ⟨s.settings.stationNumber, c, w, s.settings.weight.get c, .claiming⟩ with
    | none =>
      rw [placementResult_noEntry hw ha, placementResult_noEntry (s := withWork cs leave refill s) hw ha]
      rfl
    | some b =>
      rw [placementResult_fits hw ha, placementResult_fits (s := withWork cs leave refill s) hw ha]
      by_cases hp : (s.chan c).releasePending = true
      · rw [if_pos hp, if_pos (by exact hp)]
        rfl
      · rw [if_neg hp, if_neg (by exact hp)]
        rfl

theorem placement_ignoresWork (c : Chan) : IgnoresWork (State.jobChanges (.placement c)) :=
  IgnoresWork.comp (g := fun s => if s.station.online = true then s.placementResult c else s)
    (f := fun s => s.modChan c Channel.numberPlacement)
    (.ite (p := fun s => s.station.online = true) (fun _ _ _ _ => Iff.rfl) (placementResult_ignoresWork c) ignoresWork_id)
    fun _ _ _ _ => rfl

theorem sweep_ignoresWork (lost : Bool) : IgnoresWork (State.jobChanges (.sweep lost)) :=
  IgnoresWork.comp (g := fun s => s.raiseIf (s.unit.job == some (.sweep true)) .peerGone)
    (.ite (p := fun s => (s.unit.job == some (.sweep true)) = true) (fun _ _ _ _ => Iff.rfl) (fun _ _ _ _ => rfl)
      ignoresWork_id) losePeers_ignoresWork

/-! ### A refill that a job asks for -/

/-- An operation that does not look at what waits for the Table Unit, and that asks for a refill at most (R126). -/
def AsksRefill (f : State → State) (s : State) : Prop :=
  ∀ (cs : List Chan) (leave refill : Bool), f (withWork cs leave refill s) =
    withWork cs leave (refill || (f (withWork [] false false s)).unit.refillWaiting) (f (withWork [] false false s))

theorem IgnoresWork.asksRefill {f : State → State} {s : State} (hf : IgnoresWork f) : AsksRefill f s :=
  fun cs leave refill => by
    rw [hf, hf]
    change _ = withWork cs leave (refill || false) (f s)
    rw [Bool.or_false]

theorem AsksRefill.comp {f g : State → State} {s : State} (hg : AsksRefill g (f s)) (hf : IgnoresWork f) :
    AsksRefill (fun s => g (f s)) s := fun cs leave refill => by
  dsimp only
  rw [hf, hf]
  exact hg cs leave refill

/-- TABLE_FULL while a job runs: in JOINED and DESYNC the refill waits for its end (R21, R126). -/
theorem tableFull_asksRefill {s : State} (hj : s.unit.job ≠ none) : AsksRefill State.tableFull s := by
  intro cs leave refill
  have doubt : ∀ x : State, x.tableFull = State.tableDoubt (x.raise .tableFull) := fun x => rfl
  by_cases ho : s.station.online = true
  · have enter : ∀ (cs : List Chan) (leave refill : Bool), State.tableFull (withWork cs leave refill s) =
        withWork cs leave true (State.raise .desync (State.raise .tableFull { s with station := .desync })) :=
      fun cs leave refill => (tableDoubt_online_eq (by exact ho)).trans (enterDesync_busy (by exact hj))
    rw [enter, enter]
    change _ = withWork cs leave (refill || true) _
    rw [Bool.or_true]
    rfl
  rw [Bool.not_eq_true] at ho
  by_cases hl : s.station = .listening
  · have again : ∀ (cs : List Chan) (leave refill : Bool), State.tableFull (withWork cs leave refill s) =
        withWork cs leave refill (State.raise .tableFull { s with listenCount := s.settings.silenceLimit }) :=
      fun cs leave refill => tableDoubt_listening (by exact hl)
    rw [again, again]
    change _ = withWork cs leave (refill || false) _
    rw [Bool.or_false]
    rfl
  · have quiet : ∀ (cs : List Chan) (leave refill : Bool), State.tableFull (withWork cs leave refill s) =
        withWork cs leave refill (s.raise .tableFull) :=
      fun cs leave refill => tableDoubt_quiet (by exact ho) (by exact hl)
    rw [quiet, quiet]
    change _ = withWork cs leave (refill || false) _
    rw [Bool.or_false]
    rfl

theorem heardClaim_asksRefill {s : State} (n : Nat) (c : Chan) (w : Window) (weight : Nat) (hj : s.unit.job ≠ none) :
    AsksRefill (State.heardClaim n c w weight) s := by
  intro cs leave refill
  cases hf : (s.book.dropKey n c).fits false s.settings.budget weight w with
  | false =>
    have void : ∀ x : State, x.book = s.book → x.settings = s.settings →
        x.heardClaim n c w weight = { x with book := s.book.dropKey n c } := fun x hb hs => by
      rw [heardClaim_void (by rw [hb, hs]; exact hf), hb]
    rw [void (withWork cs leave refill s) rfl rfl, void (withWork [] false false s) rfl rfl]
    exact IgnoresWork.asksRefill (f := fun s' => { s' with book := s.book.dropKey n c }) (fun _ _ _ _ => rfl) cs leave refill
  | true =>
    have fits := fun x : State => fun (hx : x.book = s.book ∧ x.settings = s.settings) =>
      heardClaim_fits (s := x) (n := n) (c := c) (w := w) (wt := weight) (by rw [hx.1, hx.2]; exact hf) rfl
    cases ha : (s.book.dropKey n c).add ⟨n, c, w, weight, .held⟩ with
    | none =>
      rw [(fits (withWork cs leave refill s) ⟨rfl, rfl⟩).2 ha, (fits (withWork [] false false s) ⟨rfl, rfl⟩).2 ha]
      exact AsksRefill.comp (f := fun s' => { s' with book := s.book.dropKey n c }) (tableFull_asksRefill hj)
        (fun _ _ _ _ => rfl) cs leave refill
    | some b =>
      rw [(fits (withWork cs leave refill s) ⟨rfl, rfl⟩).1 b ha, (fits (withWork [] false false s) ⟨rfl, rfl⟩).1 b ha]
      exact IgnoresWork.asksRefill (f := fun s' => { s' with book := b }) (fun _ _ _ _ => rfl) cs leave refill

/-! ### The adoption -/

/-- A summary's entries taken over, and its report made in the sender's record (R120 to R122). -/
def adoptionTaken (n budget : Nat) (a : Adoption) (s : State) : State :=
  { s with
    book := a.book
    peers := updatePeer n (fun p => { p.report s.settings.budget budget with
      awaiting := p.awaiting && !(decide (s.station = .desync) && a.complete) }) s.peers }

/-- An adoption with its overcommit check made, before TABLE_FULL is reported (R120 to R123). -/
def adoptionChecked (n budget : Nat) (a : Adoption) (s : State) : State :=
  State.overcommitCheck a.added (State.raiseIf (firstMismatch n s.settings.budget budget s.peers) .budgetMismatch
    (adoptionTaken n budget a s))

theorem adopt_eq {s : State} {n budget : Nat} {listed : List Listed} {a : Adoption}
    (ha : addListed n listed (s.book.dropOwned n) = a) : s.adopt n budget listed =
      if a.complete then adoptionChecked n budget a s else State.tableFull (adoptionChecked n budget a s) := by
  unfold State.adopt
  rw [ha]
  rfl

theorem adoptionChecked_ignoresWork (n budget : Nat) (a : Adoption) : IgnoresWork (adoptionChecked n budget a) :=
  fun cs leave refill s => (congrArg (State.overcommitCheck a.added) (raiseIf_ignoresWork
    (firstMismatch n s.settings.budget budget s.peers) .budgetMismatch cs leave refill (adoptionTaken n budget a s))).trans
    (overcommitCheck_ignoresWork a.added cs leave refill _)

theorem overcommitCheck_unit (added : List Window) {s : State} : (s.overcommitCheck added).unit = s.unit := by
  unfold State.overcommitCheck
  split
  · rfl
  · dsimp only
    split
    · split
      · exact sendRelease_unit _
      · rfl
    · rfl

theorem adoptionChecked_unit {n budget : Nat} {a : Adoption} {s : State} : (adoptionChecked n budget a s).unit = s.unit :=
  (overcommitCheck_unit _).trans (by unfold State.raiseIf; split <;> rfl)

theorem adopt_asksRefill {s : State} (n budget : Nat) (listed : List Listed) (hj : s.unit.job ≠ none) :
    AsksRefill (State.adopt n budget listed) s := by
  intro cs leave refill
  generalize ha : addListed n listed (s.book.dropOwned n) = a
  rw [adopt_eq (s := withWork cs leave refill s) ha, adopt_eq (s := withWork [] false false s) ha]
  cases a.complete with
  | true => exact (adoptionChecked_ignoresWork n budget a).asksRefill cs leave refill
  | false =>
    exact (tableFull_asksRefill (by rwa [adoptionChecked_unit])).comp (adoptionChecked_ignoresWork n budget a) cs leave refill

/-! ### The jobs -/

theorem heardEffect_asksRefill {s : State} (n : Nat) (notice : Notice) (hj : s.unit.job ≠ none) :
    AsksRefill (State.heardEffect n notice) s :=
  match notice with
  | .sync _ | .shed => ignoresWork_id.asksRefill
  | .release _ => IgnoresWork.asksRefill fun _ _ _ _ => rfl
  | .claim c w weight => heardClaim_asksRefill n c w weight hj
  | .leave => (heardLeave_ignoresWork n).asksRefill
  | .summary budget listed => adopt_asksRefill n budget listed hj

/-- The changes of the job that runs do not depend on what waits; they ask for a refill at most (R16, R17, R126). -/
theorem jobChanges_asksRefill {s : State} (j : Job) (hj : s.unit.job ≠ none) : AsksRefill (State.jobChanges j) s :=
  match j with
  | .evaluate ⟨true, _, notice⟩ => (ownEffect_ignoresWork notice).asksRefill
  | .evaluate ⟨false, n, notice⟩ =>
    (heardEffect_asksRefill n notice (by rwa [settlePeer_unit])).comp (settlePeer_ignoresWork n notice)
  | .sweep lost => (sweep_ignoresWork lost).asksRefill
  | .host tk => (hostChange_ignoresWork tk).asksRefill
  | .placement c => (placement_ignoresWork c).asksRefill

/-- A job with nothing in between, from the state its grant leads to (R14, R15). -/
theorem whole_of_grant {grant finish : State → State} {s g : State} (h : s.unit.job = none)
    (hg : Host.Outcome.next (atPoint .grant grant finish s) = (Host.Outcome.next g : Host.Outcome State Fault Refusal)) :
    Host.Outcome.next (atPoint .whole grant finish s) =
      (Host.Outcome.next (atPoint .finish grant finish g) : Host.Outcome State Fault Refusal) := by
  cases hg
  exact congrArg Host.Outcome.next (atPoint_whole h)

/-- Settles O34: a job's points, the changes of the job that runs, and what its end carries out after them. -/
theorem jobsRunFromGrantToEnd : Obligations.JobsRunFromGrantToEnd := by
  refine ⟨fun s g h => ⟨whole_of_grant h, whole_of_grant h, whole_of_grant h, whole_of_grant h⟩,
    fun s u j cs leave refill hj hu => ?_, fun s t j hj hn h => ends_of_rows hj hn h⟩
  subst hu
  exact jobChanges_asksRefill j (by rw [hj]; exact Option.some_ne_none j) cs leave refill

end Sys2Proof.Machine
end
